-- ==== Sys2Proof/Word.lean ====
section
/-! DEFINITION. The word types of the LR-1608: bytes, 32-bit words and ticks, 48-bit addresses and serials, and the
numbers of lanes, frames and classes. -/

namespace Sys2Proof

/-- One byte (00_scope.md, Byte order). -/
abbrev Byte := BitVec 8

/-- A management data word, 32 bits (R202). -/
abbrev Word := BitVec 32

/-- A fabric or buffer byte address, 48 bits, modular (R1, R5). -/
abbrev Addr := BitVec 48

/-- The millisecond tick and every stamp of it, 32 bits, wrapping (R161). -/
abbrev Tick := BitVec 32

/-- A pack serial, 48 bits (R41). -/
abbrev Serial := BitVec 48

/-- Lanes are numbered 0 to 15 (00_scope.md, Names). -/
abbrev LaneNo := Fin 16

/-- Frame numbers 0 to 7, the numbers the index store and the link can name (R104, R185). -/
abbrev FrameNo := Fin 8

/-- Classes are numbered 0 to 3 (00_scope.md, Names). -/
abbrev ClassNo := Fin 4

end Sys2Proof
end

