-- ==== Sys2Proof/Machine/Bytes.lean ====
section
/-! DEFINITION. Little-endian fields (00_scope.md, Byte order), and the bits (R182) and the CRC-8 (R183) of the management
frames. -/

namespace Sys2Proof.Machine

/-- The `n` bytes of a field of value `v`, least significant first (00_scope.md). -/
def leBytes : Nat → Nat → List Byte
  | 0, _ => []
  | n + 1, v => BitVec.ofNat 8 v :: leBytes n (v / 256)

/-- The value of a little-endian field (00_scope.md). -/
def leValue : List Byte → Nat
  | [] => 0
  | b :: bs => b.toNat + 256 * leValue bs

/-- The field of `n` bytes at offset `o` of a record. -/
def leField (o n : Nat) (bytes : List Byte) : Nat := leValue ((bytes.drop o).take n)

/-- `n` zero bytes. -/
def zeroBytes (n : Nat) : List Byte := List.replicate n 0

/-- `n` zero beats (R4: REFUSED data are all zero). -/
def zeroBeats (n : Nat) : List Byte := zeroBytes (8 * n)

/-- The bits of a byte in the order of the wire, most significant first (R182). -/
def bitsOfByte (b : Byte) : List Bool :=
  [b.getLsbD 7, b.getLsbD 6, b.getLsbD 5, b.getLsbD 4, b.getLsbD 3, b.getLsbD 2, b.getLsbD 1, b.getLsbD 0]

/-- The bits of a run of bytes in the order of the wire (R182). -/
def bitsOfBytes : List Byte → List Bool
  | [] => []
  | b :: bs => bitsOfByte b ++ bitsOfBytes bs

/-- The complete bytes of the bits shifted, most significant bit first; a last byte with fewer than 8 bits is none (R182). -/
def bytesOfBits : List Bool → List Byte
  | b7 :: b6 :: b5 :: b4 :: b3 :: b2 :: b1 :: b0 :: rest =>
    BitVec.ofNat 8 (128 * b7.toNat + 64 * b6.toNat + 32 * b5.toNat + 16 * b4.toNat + 8 * b3.toNat + 4 * b2.toNat
      + 2 * b1.toNat + b0.toNat) :: bytesOfBits rest
  | _ => []

/-- The bits that make no complete byte (R182). -/
def looseBits (bits : List Bool) : List Bool := bits.drop (bits.length / 8 * 8)

/-- One of the eight shifts of R183: shift left, and exclusive-or 0x07 when the dropped bit was 1. -/
def crcShift (r : Byte) : Byte := if r.msb then (r <<< 1) ^^^ 0x07#8 else r <<< 1

/-- One byte of R183: exclusive-or it in, then shift eight times. -/
def crcByte (r b : Byte) : Byte :=
  crcShift (crcShift (crcShift (crcShift (crcShift (crcShift (crcShift (crcShift (r ^^^ b))))))))

/-- The CRC-8 of a run of bytes, from remainder 0 (R183). -/
def crc8 (bytes : List Byte) : Byte := bytes.foldl crcByte 0

/-- The smallest multiple of 512 that is not less than `x` (00_scope.md, Rounding). -/
def roundup512 (x : Nat) : Nat := (x + 511) / 512 * 512

end Sys2Proof.Machine
end

