-- ==== Sys2Proof/Syntax.lean ====
section
/-! DEFINITION. The commands of the LR-1608: one constructor of `Instr` for each row of spec/opcode_table.json, with the
operands the rules give the step. -/

namespace Sys2Proof

/-- A fabric write request (R1): the tag, the byte address, and the data with its strobes in address order, eight bytes a
beat. `some b` is a byte whose strobe is set; `none` is a byte whose strobe is clear, which "is left as it is in memory"
and which "no block of the part treats as written" (log 13). -/
structure WriteReq where
  tag : Nat
  addr : Addr
  bytes : List (Option Byte)
  deriving DecidableEq, Repr

/-- A fabric read request (R1): tag, byte address, length in beats. -/
structure ReadReq where
  tag : Nat
  addr : Addr
  beats : Nat
  deriving DecidableEq, Repr

/-- Where a write comes from (R3): the fabric presents it now, or it stands at a place, counted from 0, among the writes that
the fabric presented and the part has not taken. -/
inductive WriteSource where
  | present (w : WriteReq)
  | waiting (place : Nat)
  deriving DecidableEq, Repr

/-- A request of either stream (R1). -/
inductive FabricReq where
  | write (w : WriteSource)
  | read (r : ReadReq)
  deriving DecidableEq, Repr

/-- The code of a buffer answer: the controller answers OKAY or FAULT (section 1.4 of 01). -/
inductive BufCode where
  | okay
  | fault
  deriving DecidableEq, Repr

/-- A buffer answer: its code and, for a read, the controller's data (R9). -/
structure BufAnswer where
  code : BufCode
  data : List Byte
  deriving DecidableEq, Repr

/-- The configuration items (R186), in the order of their codes. -/
inductive ConfigItem where
  | apertureBaseLo | apertureBaseHi | frameBaseLo | frameBaseHi | frameSizeCode | frameCount
  | classEnable | packSerialBaseLo | packSerialBaseHi
  | sealThreshold | ageLimit | laneTimeout | holdTimeout | drainTimeout | autoRelease | attnMask
  deriving DecidableEq, Repr

/-- The four limit items of R167. -/
inductive LimitItem where
  | ageLimit | laneTimeout | holdTimeout | drainTimeout
  deriving DecidableEq, Repr

/-- The bytes of a checked link frame before its CRC (R202): op, item code, index, and the data word. -/
structure LinkRequest where
  op : Byte
  item : Byte
  index : Byte
  data : Word
  deriving DecidableEq, Repr

/-- The commands: one constructor for each row of spec/opcode_table.json, in the table's order. An `index` operand is the
index byte of the link frame, which the answer echoes (R184, R185); a `btag` is the buffer tag of the request that the
controller answers (R9). -/
inductive Instr where
  /-- SHAPE_CHECK_REFUSAL (R7). -/
  | shapeCheckRefusal (r : FabricReq)
  /-- PLAIN_REQUEST (R14). -/
  | plainRequest (r : FabricReq)
  /-- FRAME_REGION_WRITE (R6). -/
  | frameRegionWrite (w : WriteSource)
  /-- ANNOUNCE (R24). -/
  | announce (w : WriteSource)
  /-- CONTROL_AREA_WRITE (R21). -/
  | controlAreaWrite (w : WriteSource)
  /-- BODY_WRITE (R22). -/
  | bodyWrite (w : WriteSource)
  /-- STATUS_READ (R37). -/
  | statusRead (r : ReadReq)
  /-- MIXED_READ (R23). -/
  | mixedRead (r : ReadReq)
  /-- BODY_READ (R72). -/
  | bodyRead (r : ReadReq)
  /-- FRAME_REGION_READ (R140). -/
  | frameRegionRead (r : ReadReq)
  /-- ARBITER_GRANT (R12). -/
  | arbiterGrant
  /-- PLAIN_BUFFER_ANSWER (R14). -/
  | plainBufferAnswer (btag : Nat) (a : BufAnswer)
  /-- BODY_WRITE_OKAY (R70). -/
  | bodyWriteOkay (btag : Nat)
  /-- BODY_WRITE_FAULT (R71). -/
  | bodyWriteFault (btag : Nat)
  /-- BODY_READ_ANSWER (R72). -/
  | bodyReadAnswer (btag : Nat) (a : BufAnswer)
  /-- DRAIN_READ_OKAY (R145). -/
  | drainReadOkay (btag : Nat) (data : List Byte)
  /-- DRAIN_READ_FAULT (R146). -/
  | drainReadFault (btag : Nat)
  /-- FILL_BURST_OKAY (R114). -/
  | fillBurstOkay (btag : Nat)
  /-- FILL_BURST_FAULT (R114). -/
  | fillBurstFault (btag : Nat)
  /-- PASS_THROUGH_AFTER_CORE_RESET (R16). -/
  | passThroughAfterCoreReset (btag : Nat) (a : BufAnswer)
  /-- LATE_ANSWER_DISCARD (R17). -/
  | lateAnswerDiscard (btag : Nat)
  /-- FILL_JOB_COMPLETE (R115). -/
  | fillJobComplete
  /-- FILE_COMPLETION (R76). -/
  | fileCompletion (l : LaneNo)
  /-- VOID_END (R79). -/
  | voidEnd (l : LaneNo)
  /-- HELD_ANNOUNCE_RETRY (R30). -/
  | heldAnnounceRetry (l : LaneNo)
  /-- SEAL_READY (R126). -/
  | sealReady (f : FrameNo)
  /-- DRAIN_EVALUATION (R148). -/
  | drainEvaluation (f : FrameNo)
  /-- FREE_PULSE (R156). -/
  | freePulse
  /-- TICK_ADVANCE (R161). -/
  | tickAdvance
  /-- AGE_EXPIRY (R163). -/
  | ageExpiry (f : FrameNo)
  /-- LANE_TIMER_EXPIRY (R164). -/
  | laneTimerExpiry (l : LaneNo)
  /-- HOLD_TIMEOUT_EXPIRY (R31). -/
  | holdTimeoutExpiry (l : LaneNo)
  /-- DRAIN_TIMEOUT_EXPIRY (R150). -/
  | drainTimeoutExpiry (f : FrameNo)
  /-- STOP_COMPLETE (R177). -/
  | stopComplete
  /-- CORE_CLEAR (R180). -/
  | coreClear
  /-- LINK_FRAME_DISCARD (R182): the bits sampled on SDI while CS# is low are those of `bytes`, then `bits`, such as the fewer
  than 8 bits of a broken last byte. -/
  | linkFrameDiscard (bytes : List Byte) (bits : List Bool)
  /-- BAD_ITEM (R185): a checked frame that R185 answers without any further effect. -/
  | badItem (r : LinkRequest)
  /-- CONFIG_ITEM_WRITE (R186). -/
  | configItemWrite (item : ConfigItem) (index : Byte) (data : Word)
  /-- TIMER_LIMIT_WRITE (R167). -/
  | timerLimitWrite (item : LimitItem) (index : Byte) (data : Word)
  /-- ATTN_MASK_WRITE (R192). -/
  | attnMaskWrite (index : Byte) (data : Word)
  /-- INDEX_SELECT (R104), op WRITE. -/
  | indexSelect (index : Byte) (data : Word)
  /-- ATTN_CAUSE_READ (R191). -/
  | attnCauseRead (index : Byte)
  /-- SEAL_NEXT_POP (R134): a READ of SEAL_NEXT with index 0. -/
  | sealNextPop
  /-- START (R174). -/
  | start (index : Byte)
  /-- STOP (R175). -/
  | stop (index : Byte)
  /-- HALT (R176). -/
  | halt (index : Byte)
  /-- ENTER_CONFIG (R178). -/
  | enterConfig (index : Byte)
  /-- RESET_CORE (R179). -/
  | resetCore (index : Byte)
  /-- FLUSH_CLASS (R55); the index is the class. -/
  | flushClass (index : Byte)
  /-- RELEASE (R152); the index is the frame. -/
  | release (index : Byte)
  /-- DISCARD (R154); the index is the frame. -/
  | discard (index : Byte)
  /-- REDRAIN (R155); the index is the frame. -/
  | redrain (index : Byte)
  /-- RESET_ASSERT (R181): RESET# falls. -/
  | resetAssert
  /-- HARD_RESET (R181): RESET# rises, or power-up completes. -/
  | hardReset
  deriving DecidableEq, Repr

end Sys2Proof
end

