-- ==== Sys2Proof/Decode.lean ====
section
/-! DEFINITION. From bits to commands. spec/opcode_table.json gives no row any bits, so `decodeTableWord` answers none (log
23); the frames of the management link, which the spec does give bytes (R182, R185, R202), are decoded by
`decodeLinkFrame`, with the item codes and index ranges of R185. -/

namespace Sys2Proof

open Sys2Proof.Machine

/-- The command that a table word spells: the table gives bits for no row (log 23). -/
def decodeTableWord (_nbits _w : Nat) : Option Instr := none

/-- The codes of the configuration items (R186). -/
def ConfigItem.code : ConfigItem → Byte
  | .apertureBaseLo => 0x20#8
  | .apertureBaseHi => 0x21#8
  | .frameBaseLo => 0x22#8
  | .frameBaseHi => 0x23#8
  | .frameSizeCode => 0x24#8
  | .frameCount => 0x25#8
  | .classEnable => 0x26#8
  | .packSerialBaseLo => 0x27#8
  | .packSerialBaseHi => 0x28#8
  | .sealThreshold => 0x30#8
  | .ageLimit => 0x31#8
  | .laneTimeout => 0x32#8
  | .holdTimeout => 0x33#8
  | .drainTimeout => 0x34#8
  | .autoRelease => 0x35#8
  | .attnMask => 0x36#8

/-- The configuration item of a code (R186). -/
def configItemOf (code : Byte) : Option ConfigItem :=
  match code.toNat with
  | 0x20 => some .apertureBaseLo
  | 0x21 => some .apertureBaseHi
  | 0x22 => some .frameBaseLo
  | 0x23 => some .frameBaseHi
  | 0x24 => some .frameSizeCode
  | 0x25 => some .frameCount
  | 0x26 => some .classEnable
  | 0x27 => some .packSerialBaseLo
  | 0x28 => some .packSerialBaseHi
  | 0x30 => some .sealThreshold
  | 0x31 => some .ageLimit
  | 0x32 => some .laneTimeout
  | 0x33 => some .holdTimeout
  | 0x34 => some .drainTimeout
  | 0x35 => some .autoRelease
  | 0x36 => some .attnMask
  | _ => none

/-- The index lies in the range of a readable item that is no configuration item (R185). -/
def statusReadable (item index : Byte) : Bool :=
  match item.toNat with
  | 0x01 | 0x03 | 0x04 | 0x0E => true
  | 0x02 | 0x05 => decide (index.toNat ≤ 3)
  | 0x08 => decide (index.toNat ≤ 7)
  | 0x09 => decide (index.toNat ≤ 71)
  | 0x0A => decide (index.toNat ≤ 4)
  | 0x0C => decide (index.toNat ≤ 63)
  | 0x0D => decide (index.toNat ≤ 95)
  | 0x0F => decide (index.toNat ≤ 24)
  | _ => false

/-- A READ that R185 allows. -/
def readAllowed (item index : Byte) : Bool := (configItemOf item).isSome || statusReadable item index

/-- A READ with an effect of its own: ATTN_CAUSE (R191), and SEAL_NEXT with index 0 (R134). -/
def readActs (item index : Byte) : Bool := item == 0x04#8 || (item == 0x0A#8 && index == 0)

/-- A WRITE that R185 allows: a configuration item or INDEX_SELECT. -/
def writeAllowed (item : Byte) : Bool := (configItemOf item).isSome || item == 0x0E#8

/-- An ACT that R185 and R188 allow: an action item, and for FLUSH_CLASS a class. -/
def actAllowed (item index : Byte) : Bool :=
  decide (0x40 ≤ item.toNat) && decide (item.toNat ≤ 0x48) && !(item == 0x45#8 && decide (3 < index.toNat))

/-- The command of a WRITE of a configuration item, by the table's three rows for it (R186, R167, R192). -/
def writeCommand (item : ConfigItem) (index : Byte) (data : Word) : Instr :=
  match item with
  | .ageLimit => .timerLimitWrite .ageLimit index data
  | .laneTimeout => .timerLimitWrite .laneTimeout index data
  | .holdTimeout => .timerLimitWrite .holdTimeout index data
  | .drainTimeout => .timerLimitWrite .drainTimeout index data
  | .attnMask => .attnMaskWrite index data
  | i => .configItemWrite i index data

/-- The command of an ACT (R188). -/
def actCommand (r : LinkRequest) : Instr :=
  match r.item.toNat with
  | 0x40 => .start r.index
  | 0x41 => .stop r.index
  | 0x42 => .halt r.index
  | 0x43 => .enterConfig r.index
  | 0x44 => .resetCore r.index
  | 0x45 => .flushClass r.index
  | 0x46 => .release r.index
  | 0x47 => .discard r.index
  | 0x48 => .redrain r.index
  | _ => .badItem r

/-- The command of a checked link frame (R185); a request that is answered without any further effect is carried by
BAD_ITEM's command (log 9). -/
def requestCommand (r : LinkRequest) : Instr :=
  if r.op == 0x01#8 && r.item == 0x04#8 then .attnCauseRead r.index
  else if r.op == 0x01#8 && r.item == 0x0A#8 && r.index == 0 then .sealNextPop
  else if r.op == 0x02#8 && r.item == 0x0E#8 then .indexSelect r.index r.data
  else if r.op == 0x02#8 then
    match configItemOf r.item with
    | some i => writeCommand i r.index r.data
    | none => .badItem r
  else if r.op == 0x03#8 && actAllowed r.item r.index then actCommand r
  else .badItem r

/-- A frame of these bits is discarded when CS# rises: a wrong count of bytes, a last byte with fewer than 8 bits, or a CRC
that fails (R182, R183). -/
def linkFrameBad (bits : List Bool) : Bool :=
  let bytes := bytesOfBits bits
  bits.length != 64 || crc8 (bytes.take 7) != (bytes[7]?).getD 0

/-- The request in the first seven bytes of a frame (R202). -/
def frameRequest (bytes : List Byte) : LinkRequest :=
  { op := (bytes[0]?).getD 0, item := (bytes[1]?).getD 0, index := (bytes[2]?).getD 0
    data := BitVec.ofNat 32 (leField 3 4 bytes) }

/-- The command of the bits sampled while CS# was low; none when there was no SCK edge (R182, R185). -/
def decodeLinkFrame (bits : List Bool) : Option Instr :=
  if bits.isEmpty then none
  else if linkFrameBad bits then some (.linkFrameDiscard (bytesOfBits bits) (looseBits bits))
  else some (requestCommand (frameRequest (bytesOfBits bits)))

/-! ## The frame that spells a command -/

/-- The configuration item of a limit (R167). -/
def LimitItem.configItem : LimitItem → ConfigItem
  | .ageLimit => .ageLimit
  | .laneTimeout => .laneTimeout
  | .holdTimeout => .holdTimeout
  | .drainTimeout => .drainTimeout

/-- A request frame's fields (R202). -/
def linkRequest (op item index : Byte) (data : Word) : LinkRequest :=
  { op := op, item := item, index := index, data := data }

/-- The request that spells a configuration write: the limits and ATTN_MASK have rows of their own. -/
def configRequest (item : ConfigItem) (index : Byte) (data : Word) : Option LinkRequest :=
  match item with
  | .ageLimit | .laneTimeout | .holdTimeout | .drainTimeout | .attnMask => none
  | _ => some (linkRequest 0x02#8 item.code index data)

/-- The link request that spells a command; none for a command that is no link frame (R185, R186, R188). The data bytes that
a request ignores are sent as zero. -/
def linkRequestOf : Instr → Option LinkRequest
  | .badItem r => if requestCommand r = .badItem r then some r else none
  | .configItemWrite item index data => configRequest item index data
  | .timerLimitWrite item index data => some (linkRequest 0x02#8 item.configItem.code index data)
  | .attnMaskWrite index data => some (linkRequest 0x02#8 0x36#8 index data)
  | .indexSelect index data => some (linkRequest 0x02#8 0x0E#8 index data)
  | .attnCauseRead index => some (linkRequest 0x01#8 0x04#8 index 0)
  | .sealNextPop => some (linkRequest 0x01#8 0x0A#8 0 0)
  | .start index => some (linkRequest 0x03#8 0x40#8 index 0)
  | .stop index => some (linkRequest 0x03#8 0x41#8 index 0)
  | .halt index => some (linkRequest 0x03#8 0x42#8 index 0)
  | .enterConfig index => some (linkRequest 0x03#8 0x43#8 index 0)
  | .resetCore index => some (linkRequest 0x03#8 0x44#8 index 0)
  | .flushClass index => if index.toNat ≤ 3 then some (linkRequest 0x03#8 0x45#8 index 0) else none
  | .release index => some (linkRequest 0x03#8 0x46#8 index 0)
  | .discard index => some (linkRequest 0x03#8 0x47#8 index 0)
  | .redrain index => some (linkRequest 0x03#8 0x48#8 index 0)
  | .shapeCheckRefusal _ | .plainRequest _ | .frameRegionWrite _ | .announce _ | .controlAreaWrite _ | .bodyWrite _
  | .statusRead _ | .mixedRead _ | .bodyRead _ | .frameRegionRead _ | .arbiterGrant | .plainBufferAnswer _ _
  | .bodyWriteOkay _ | .bodyWriteFault _ | .bodyReadAnswer _ _ | .drainReadOkay _ _ | .drainReadFault _
  | .fillBurstOkay _ | .fillBurstFault _ | .passThroughAfterCoreReset _ _ | .lateAnswerDiscard _ | .fillJobComplete
  | .fileCompletion _ | .voidEnd _ | .heldAnnounceRetry _ | .sealReady _ | .drainEvaluation _ | .freePulse
  | .tickAdvance | .ageExpiry _ | .laneTimerExpiry _ | .holdTimeoutExpiry _ | .drainTimeoutExpiry _ | .stopComplete
  | .coreClear | .linkFrameDiscard _ _ | .resetAssert | .hardReset => none

/-- Bytes 0 to 6 of a request frame (R202). -/
def requestBytes (r : LinkRequest) : List Byte := [r.op, r.item, r.index] ++ leBytes 4 r.data.toNat

/-- The eight bytes of a request frame, closed with their CRC-8 (R183, R202). -/
def encodeRequest (r : LinkRequest) : List Byte := requestBytes r ++ [crc8 (requestBytes r)]

end Sys2Proof
end

