-- ==== Sys2Proof/Config.lean ====
section
/-! DEFINITION. What is fixed for the part: the constants its rules name, and the two free values of the model. -/

namespace Sys2Proof.Config

/-- The sum modulus P = 2^31 − 1 (R81, 00_scope.md). -/
def sumModulus : Nat := 2147483647

/-- Records of an open-request list (R2). -/
def listCapacity : Nat := 64

/-- Places of a lane's result queue (R36). -/
def resultCapacity : Nat := 4

/-- Extents of a lane's extent list (R66). -/
def extentCapacity : Nat := 8

/-- Entries of an index table (R45, R95). -/
def entryCapacity : Nat := 2048

/-- The record granule (00_scope.md, R44). -/
def granule : Nat := 512

/-- Bytes of the pack head block, where the first record starts (R50). -/
def packHeadBytes : Nat := 4096

/-- Jobs a lane may have queued or in progress (R49, R119). -/
def laneJobLimit : Nat := 2

/-- The announce marker and version (R195). -/
def announceMarker : BitVec 32 := 0x6E21A0C5#32
def announceVersion : BitVec 8 := 1#8

/-- The pack head marker and version (R195). -/
def packHeadMarker : BitVec 32 := 0x6E21A0D7#32
def packHeadVersion : BitVec 8 := 1#8

/-- The trailer marker (R195). -/
def trailerMarker : BitVec 32 := 0x6E21A0E9#32

/-- FREE VALUE (log 7): byte number `n` of the beats that a lane had dropped from a body read whose buffer answer is
passed to the fabric after a core reset. R4 asks for as many beats as the request's length, R16 passes the
controller's beats with no zeroing, and no rule gives the bytes of the beats the controller was never asked for. -/
opaque droppedBeatByte : Nat → BitVec 8

/-- FREE VALUE (log 25): the data word of the answer to the `n`-th INDEX_SELECT write. R104 says that the write is answered
OK, R184 gives every answer a data word, and no rule states it for this item. -/
opaque indexSelectData : Nat → BitVec 32

end Sys2Proof.Config
end

