-- ==== Sys2Proof/Machine/State.lean ====
section
/-! DEFINITION. Every piece of state the spec gives the part, as plain data, grouped by the block that owns it
(00_scope.md, Block overview), with the queue of waiting commands; the two ways a step stops; the state after reset. -/

namespace Sys2Proof.Machine

/-! ## Sums and timers -/

/-- A two-term sum (R81): two numbers below P (R83). -/
structure TwoSum where
  a : Nat
  b : Nat
  deriving DecidableEq, Repr

/-- Where every sum starts: (0, 0) (R81). -/
def TwoSum.zero : TwoSum := ⟨0, 0⟩

/-- A running deadline (R162): its start tick, and whether the timer unit has reported its expiry to the owner, who has
not taken it yet (log 5). A stopped deadline is an absent one. -/
structure Timer where
  start : Tick
  reported : Bool
  deriving DecidableEq, Repr

/-! ## Ports (chapter 1) -/

/-- The two request streams of the fabric side (section 1.1 of 01). -/
inductive Stream where
  | write
  | read
  deriving DecidableEq, Repr

/-- The three response codes (R4). -/
inductive RespCode where
  | okay
  | refused
  | fault
  deriving DecidableEq, Repr

/-- An answer given on the fabric (R4): the stream, the request's tag, the code and, for a read, the data bytes. -/
structure FabricAnswer where
  stream : Stream
  tag : Nat
  code : RespCode
  data : List Byte
  deriving DecidableEq, Repr

/-- The address class of a taken request, with its lane or frame number (R2, R5). -/
inductive ReqClass where
  | plain
  | aperture (l : LaneNo)
  | frame (f : FrameNo)
  deriving DecidableEq, Repr

/-- What a lane records with a forwarded body write (R69, R87, R64): file, first body offset of its beats, claim range,
and whether it reaches past L. -/
structure BodyWriteInfo where
  lane : LaneNo
  frame : FrameNo
  entry : Nat
  off : Nat
  k : Nat
  lo : Nat
  hi : Nat
  pastEnd : Bool
  deriving DecidableEq, Repr

/-- What a lane records with a forwarded body read (R72). -/
structure BodyReadInfo where
  lane : LaneNo
  k : Nat
  len : Nat
  deriving DecidableEq, Repr

/-- What the drain monitor records with a forwarded frame-region read (R141): frame, first frame offset, the member and
counted marks, and the claimed range of a counted read (R145). -/
structure DrainReadInfo where
  frame : FrameNo
  off : Nat
  member : Bool
  counted : Bool
  lo : Nat
  hi : Nat
  deriving DecidableEq, Repr

/-- The origin of a fabric request in the part (R2), with what its owner recorded. -/
inductive ReqOrigin where
  | plain
  | heldAnnounce (l : LaneNo)
  | bodyWrite (i : BodyWriteInfo)
  | bodyRead (i : BodyReadInfo)
  | drainRead (i : DrainReadInfo)
  deriving DecidableEq, Repr

/-- The stage of an open request (R2). -/
inductive Stage where
  | held
  | forwarded
  | pendingOwner (code : BufCode) (data : List Byte)
  | answerable (code : RespCode) (data : List Byte)
  deriving DecidableEq, Repr

/-- A record of an open-request list (R2). `slot` is the model's number of the record within its list (log 6);
`preReset` marks a record kept by a core reset (R16, R180). -/
structure OpenReq where
  slot : Nat
  tag : Nat
  cls : ReqClass
  origin : ReqOrigin
  stage : Stage
  beats : Nat
  preReset : Bool
  deriving DecidableEq, Repr

/-- What a buffer request carries beside its address: the bytes with strobes of a write, or the beats of a read (R9). -/
inductive BufBody where
  | write (bytes : List (Option Byte))
  | read (beats : Nat)
  deriving DecidableEq, Repr

/-- A buffer request (section 1.4 of 01). -/
structure BufReq where
  addr : Addr
  body : BufBody
  deriving DecidableEq, Repr

/-- An entry of the pass-through queue (R11): a buffer request and the record it belongs to. -/
structure PassEntry where
  stream : Stream
  slot : Nat
  req : BufReq
  deriving DecidableEq, Repr

/-- The five job kinds (R108). -/
inductive JobKind where
  | packHead
  | fileHead
  | pad
  | voidFill
  | directory
  deriving DecidableEq, Repr

/-- The origin of an outstanding buffer request (R9): a fabric record; a burst of the current fill job, with its frame and
the frame offset of its first beat; or a fill burst issued before a core reset, whose answer is discarded (R16). -/
inductive BufOrigin where
  | fabric (stream : Stream) (slot : Nat)
  | burst (kind : JobKind) (f : FrameNo) (off : Nat)
  | dropped
  deriving DecidableEq, Repr

/-- An outstanding buffer request: buffer tag, origin, request (R9). -/
structure Outstanding where
  btag : Nat
  origin : BufOrigin
  req : BufReq
  deriving DecidableEq, Repr

/-- The side that the arbiter granted last (R12). -/
inductive Side where
  | passThrough
  | fill
  deriving DecidableEq, Repr

/-- The fabric port, the buffer port and the buffer arbiter. `untaken` holds the writes that
the fabric presented to a lane and the part has not taken, in the order of their presentation: the write intakes are the parts
of it that the present layout addresses to each lane (R3, R8; log 3). `answers` is the model's record of the answers given on
the two answer paths, oldest first (log 10). -/
structure Port where
  writes : List OpenReq
  reads : List OpenReq
  passQ : List PassEntry
  outstanding : List Outstanding
  late : List Nat
  lastGrant : Side
  untaken : List WriteReq
  answers : List FabricAnswer
  deriving DecidableEq, Repr

/-! ## Lanes (chapters 2 and 4) -/

/-- The lane states (R18). -/
inductive LaneState where
  | idle
  | waiting
  | receiving
  | voiding
  | muted
  deriving DecidableEq, Repr

/-- The fields of a valid announce (R18, R24). -/
structure Announce where
  cls : ClassNo
  sumGiven : Bool
  sealAfter : Bool
  len : Nat
  wtag : BitVec 64
  digest : BitVec 256
  expA : Word
  expB : Word
  deriving DecidableEq, Repr

/-- The wait reasons (R18). -/
inductive WaitReason where
  | noFrame
  | jobLimit
  | voiding
  deriving DecidableEq, Repr

/-- A held announce (R18, R29): the announce, the reason, the hold timer (whose start is the wait start), and the record of
its unanswered write. -/
structure Held where
  ann : Announce
  reason : WaitReason
  timer : Timer
  slot : Nat
  deriving DecidableEq, Repr

/-- The causes of a void (R77). -/
inductive VoidCause where
  | timeout
  | superseded
  | memfault
  | halt
  deriving DecidableEq, Repr

/-- The result codes but for NONE, which an empty queue shows (R35, R37, R195). -/
inductive ResultCode where
  | complete
  | completeMismatch
  | voidTimeout
  | voidSuperseded
  | voidMemfault
  | voidHalt
  | refusedMalformed
  | refusedClass
  | refusedOversize
  | refusedHold
  | refusedStopping
  deriving DecidableEq, Repr

/-- A result record (R35). -/
structure Result where
  code : ResultCode
  placed : Bool
  sumGiven : Bool
  sealAfter : Bool
  mismatch : Bool
  entry : Nat
  serial : Serial
  off : Nat
  sumA : Nat
  sumB : Nat
  wtag : BitVec 64
  len : BitVec 64
  deriving DecidableEq, Repr

/-- An extent: body offsets from `start` to `stop` (R66). -/
structure Extent where
  start : Nat
  stop : Nat
  deriving DecidableEq, Repr

/-- A lane context (R18). `timer` is absent while the lane timer is stopped (R73); `voidCause` is the cause recorded when a
void began (R77); `lastWrite` is the record of the held-back answer of a written file (R75). -/
structure Lane where
  state : LaneState
  held : Option Held
  file : Option (FrameNo × Nat)
  extents : List Extent
  outstanding : Nat
  timer : Option Timer
  firstWrite : Bool
  muteMark : Bool
  voidCause : Option VoidCause
  lastWrite : Option Nat
  results : List Result
  completed : Word
  voided : Word
  refusedAnn : Word
  clamped : Word
  refusedWr : Word
  dropped : Byte
  deriving DecidableEq, Repr

/-- A lane after either reset (R40). -/
def Lane.reset : Lane :=
  { state := .idle, held := none, file := none, extents := [], outstanding := 0, timer := none, firstWrite := false,
    muteMark := false, voidCause := none, lastWrite := none, results := [], completed := 0, voided := 0,
    refusedAnn := 0, clamped := 0, refusedWr := 0, dropped := 0 }

/-! ## Index entries (chapter 6) and the frame table (chapter 3) -/

/-- The entry states (R96). -/
inductive EntryState where
  | placed
  | voiding
  | complete
  | void
  deriving DecidableEq, Repr

/-- An index entry (R96). -/
structure Entry where
  state : EntryState
  lane : LaneNo
  off : Nat
  len : Nat
  received : Nat
  cls : ClassNo
  sumGiven : Bool
  sealAfter : Bool
  mismatch : Bool
  expected : Option (Word × Word)
  sums : TwoSum
  arrival : Tick
  endTick : Option Tick
  wtag : BitVec 64
  digest : BitVec 256
  deriving DecidableEq, Repr

/-- The frame states (R41). -/
inductive FrameState where
  | free
  | opened
  | sealing
  | sealed
  | draining
  | drained
  | held
  deriving DecidableEq, Repr

/-- The seal causes (R41). -/
inductive SealCause where
  | threshold
  | entryLimit
  | misfit
  | age
  | sealAfter
  | flush
  | stop
  | halt
  deriving DecidableEq, Repr

/-- The seal stages (R123). -/
inductive SealStage where
  | none
  | gathering
  | writing
  deriving DecidableEq, Repr

/-- The drain record (R139). -/
structure Drain where
  cursor : Nat
  broken : Bool
  outstanding : Nat
  sums : TwoSum
  timer : Option Timer
  deriving DecidableEq, Repr

/-- The drain state as it is reset (R139). -/
def Drain.reset : Drain := { cursor := 0, broken := false, outstanding := 0, sums := .zero, timer := none }

/-- A record of the frame table (R41) with its index table (R95: the entry count n is the length of `entries`), its seal
stage (R123), and the mark of an age expiry reported and not yet taken (log 5). A field that is absent is `none`, or 0
where R61 shows it as zero (log 16). -/
structure Frame where
  state : FrameState
  cls : Option ClassNo
  serial : Serial
  cursor : Nat
  entries : List Entry
  openTick : Tick
  sealCause : Option SealCause
  sealTick : Option Tick
  imageLength : Option Nat
  imageFault : Bool
  sums : TwoSum
  drain : Option Drain
  stage : SealStage
  ageReported : Bool
  deriving DecidableEq, Repr

/-- A FREE frame: every other field absent (R58, R62). -/
def Frame.free : Frame :=
  { state := .free, cls := none, serial := 0, cursor := 0, entries := [], openTick := 0, sealCause := none,
    sealTick := none, imageLength := none, imageFault := false, sums := .zero, drain := none, stage := .none,
    ageReported := false }

/-! ## Fill engine (chapter 7) -/

/-- The source of a job, taken at enqueue (R108). -/
inductive JobSource where
  | packHead (serial : Serial) (cls : ClassNo) (sizeCode : Word) (openTick : Tick)
  | fileHead (entry : Nat)
  | zeros
  | directory (cursor n imageLength : Nat) (serial : Serial)
  deriving DecidableEq, Repr

/-- A fill job (R108): kind, frame, lane of a file job, range of frame offsets from `start` to `stop`, source. -/
structure Job where
  kind : JobKind
  frame : FrameNo
  lane : Option LaneNo
  start : Nat
  stop : Nat
  source : JobSource
  deriving DecidableEq, Repr

/-- The progress of the current job (R113). -/
structure Progress where
  next : Nat
  issued : Nat
  answered : Nat
  deriving DecidableEq, Repr

/-- The fill engine: the job queue, whose head is the current job (R109), and the current job's progress (R113). -/
structure FillEngine where
  queue : List Job
  progress : Option Progress
  deriving DecidableEq, Repr

/-! ## Seal unit, run control, link, attention (chapters 8, 11, 12) -/

/-- The last-pop record (R134). -/
structure LastPop where
  frame : FrameNo
  serial : Serial
  imageLength : Nat
  deriving DecidableEq, Repr

/-- The global states (R170). -/
inductive GlobalState where
  | config
  | running
  | stopping
  | stopped
  deriving DecidableEq, Repr

/-- The actions (R188). -/
inductive Action where
  | start
  | stop
  | halt
  | enterConfig
  | resetCore
  | flushClass
  | release
  | discard
  | redrain
  deriving DecidableEq, Repr

/-- The action results but for "none" (R188). -/
inductive ActionResult where
  | done
  | layout
  | wrongState
  | nothing
  | notEmpty
  deriving DecidableEq, Repr

/-- Run control (R170, R172) with the global counters (R187). The stage is BUSY while an action is `running`. -/
structure RunControl where
  global : GlobalState
  running : Option Action
  last : Option (ActionResult × Action)
  opened : Word
  sealedN : Word
  drainedN : Word
  heldN : Word
  deriving DecidableEq, Repr

/-- The responses of the link (R185). -/
inductive LinkResp where
  | ok
  | refusedState
  | refusedBusy
  | badItem
  | badCrc
  deriving DecidableEq, Repr

/-- The pending answer (R184). -/
structure LinkAnswer where
  resp : LinkResp
  item : Byte
  index : Byte
  data : Word
  deriving DecidableEq, Repr

/-- The management link (section 12 of 12): the receiver, which holds the bits of the frame being shifted in, the first
sampled first (R182); the outgoing frame composed when CS# fell, absent while CS# is high (R184); the pending answer. -/
structure Link where
  receiver : List Bool
  sending : Option (List Byte)
  answer : LinkAnswer
  deriving DecidableEq, Repr

/-- The configuration items (R186), each a 32-bit value. -/
structure Items where
  apertureBaseLo : Word
  apertureBaseHi : Word
  frameBaseLo : Word
  frameBaseHi : Word
  frameSizeCode : Word
  frameCount : Word
  classEnable : Word
  packSerialBaseLo : Word
  packSerialBaseHi : Word
  sealThreshold : Word
  ageLimit : Word
  laneTimeout : Word
  holdTimeout : Word
  drainTimeout : Word
  autoRelease : Word
  attnMask : Word
  deriving DecidableEq, Repr

/-- The defaults after hard reset (R186, R167). -/
def Items.reset : Items :=
  { apertureBaseLo := 0, apertureBaseHi := 1, frameBaseLo := 0x80000000#32, frameBaseHi := 0, frameSizeCode := 26,
    frameCount := 8, classEnable := 15, packSerialBaseLo := 1, packSerialBaseHi := 0, sealThreshold := 240,
    ageLimit := 60000, laneTimeout := 2000, holdTimeout := 5000, drainTimeout := 10000, autoRelease := 0,
    attnMask := 0 }

/-- The five latched attention flags (R190). -/
structure AttnFlags where
  laneErr : Bool
  imageFault : Bool
  linkErr : Bool
  frameShort : Bool
  packHeld : Bool
  deriving DecidableEq, Repr

/-- No flag set (R190: both resets clear all five flags). -/
def AttnFlags.clear : AttnFlags :=
  { laneErr := false, imageFault := false, linkErr := false, frameShort := false, packHeld := false }

/-- The INDEX_SELECT selection (R104). -/
structure Selection where
  frame : FrameNo
  entry : Nat
  deriving DecidableEq, Repr

/-! ## The machine -/

/-- The state of the part, with the queue of waiting commands, first in, first out. `pulses` counts the FREEPULSE pulses
given (log 12), and `free` counts the draws of free values (log 7): both are the model's own. -/
structure State where
  pending : List Instr
  port : Port
  lanes : Vector Lane 16
  frames : Vector Frame 8
  classTable : Vector (Option FrameNo) 4
  waitList : List LaneNo
  nextSerial : Serial
  sel : Selection
  fill : FillEngine
  sealQ : List FrameNo
  lastPop : Option LastPop
  owed : Nat
  pulses : Nat
  tick : Tick
  run : RunControl
  items : Items
  link : Link
  attn : AttnFlags
  resetLow : Bool
  free : Nat
  deriving DecidableEq, Repr

/-- The ways a step stops with a fault. -/
inductive Fault where
  /-- Raised by every buffer-answer command whose tag the port has not issued and does not keep as late: R9 matches each
  answer to its request by tag and gives such an answer no effect. Safe: the model stops where the spec is silent
  (log 11). -/
  | unmatchedBufferAnswer
  deriving DecidableEq, Repr

/-- The ways a step is refused. -/
inductive Refusal where
  /-- Raised by `exec`'s arm of a command that has no meaning yet. Safe: nothing is claimed of it. -/
  | notModelled (mnemonic : String)
  /-- Raised by a meaning whose term is no request and no answer in the shape of R1, R4 or R9
  (WellFormed.lean). Safe: the part never meets one (log 18). -/
  | illFormed
  deriving DecidableEq, Repr

/-- The ports after hard reset, nothing issued before it (R17). -/
def Port.reset : Port :=
  { writes := [], reads := [], passQ := [], outstanding := [], late := [], lastGrant := .fill,
    untaken := [], answers := [] }

/-- The part right after hard reset at power-up, with nothing in flight (R17, R40, R62, R107, R122, R138, R160, R169,
R181, R194). -/
def State.reset : State :=
  { pending := []
    port := Port.reset
    lanes := Vector.replicate 16 Lane.reset
    frames := Vector.replicate 8 Frame.free
    classTable := Vector.replicate 4 none
    waitList := []
    nextSerial := 1
    sel := { frame := 0, entry := 0 }
    fill := { queue := [], progress := none }
    sealQ := []
    lastPop := none
    owed := 0
    pulses := 0
    tick := 0
    run := { global := .config, running := none, last := none, opened := 0, sealedN := 0, drainedN := 0, heldN := 0 }
    items := Items.reset
    link := { receiver := [], sending := none, answer := { resp := .ok, item := 0, index := 0, data := 0 } }
    attn := AttnFlags.clear
    resetLow := false
    free := 0 }

end Sys2Proof.Machine
end

