-- ==== Sys2Proof/Machine/Flags.lean ====
section
/-! DEFINITION. The attention flags (R190 to R192), the output lines, and the status summary and outgoing frame of the
link (R184, R203), which show the state. -/

namespace Sys2Proof.Machine

/-- Change the attention flags. -/
def modAttn (g : AttnFlags → AttnFlags) (s : State) : State := { s with attn := g s.attn }

/-- LANE_ERR: a lane appends a void or refusal result (R190). -/
def raiseLaneErr (s : State) : State := modAttn (fun a => { a with laneErr := true }) s

/-- IMAGE_FAULT: a fill burst is answered FAULT (R190). -/
def raiseImageFault (s : State) : State := modAttn (fun a => { a with imageFault := true }) s

/-- LINK_ERR: the link discards a frame (R190). -/
def raiseLinkErr (s : State) : State := modAttn (fun a => { a with linkErr := true }) s

/-- FRAME_SHORT: the frame wait list becomes non-empty (R190). -/
def raiseFrameShort (s : State) : State := modAttn (fun a => { a with frameShort := true }) s

/-- PACK_HELD: a frame enters HELD (R190). -/
def raisePackHeld (s : State) : State := modAttn (fun a => { a with packHeld := true }) s

/-- The sum of the weights of the set flags (R190, R191). -/
def AttnFlags.weight (a : AttnFlags) : Nat :=
  a.laneErr.toNat + 2 * a.imageFault.toNat + 4 * a.linkErr.toNat + 8 * a.frameShort.toNat + 16 * a.packHeld.toNat

/-- FRAME_SHORT's condition: the wait list is not empty (R57, R190). -/
def frameShortHolds (s : State) : Bool := !s.waitList.isEmpty

/-- PACK_HELD's condition: at least one frame is in HELD (R190). -/
def packHeldHolds (s : State) : Bool := s.frames.toList.any (fun f => f.state == .held)

/-- What a read of ATTN_CAUSE leaves: event flags clear, a condition flag clear unless its condition still holds (R191). -/
def clearOnRead (s : State) : State :=
  modAttn (fun a => { laneErr := false, imageFault := false, linkErr := false,
                      frameShort := a.frameShort && frameShortHolds s,
                      packHeld := a.packHeld && packHeldHolds s }) s

/-- Bit `i` of ATTN_MASK (R186, R192). -/
def masked (s : State) (i : Nat) : Bool := s.items.attnMask.getLsbD i

/-- ATTN# is driven low: some set flag is not masked; released while RESET# is low (R192, R181). -/
def attnLow (s : State) : Bool :=
  !s.resetLow &&
    ((s.attn.laneErr && !masked s 0) || (s.attn.imageFault && !masked s 1) || (s.attn.linkErr && !masked s 2)
      || (s.attn.frameShort && !masked s 3) || (s.attn.packHeld && !masked s 4))

/-- SEALRDY is high while the seal queue holds a frame (R136); low while RESET# is low (R181). -/
def sealRdy (s : State) : Bool := !s.resetLow && !s.sealQ.isEmpty

/-- FREEPULSE between two commands: the line is low between pulses, and FREE_PULSE is one whole pulse (R156, R181;
log 12). -/
def freePulseLine (_ : State) : Bool := false

/-- The code of a global state (R187). -/
def GlobalState.code : GlobalState → Nat
  | .config => 0
  | .running => 1
  | .stopping => 2
  | .stopped => 3

/-- The action-status stage: 0 IDLE, 1 BUSY (R189). -/
def stageCode (s : State) : Nat := if s.run.running.isSome then 1 else 0

/-- The status summary (R203): flags without regard to ATTN_MASK, 32 × global state, 128 × stage. -/
def statusSummary (s : State) : Byte :=
  BitVec.ofNat 8 (s.attn.weight + 32 * s.run.global.code + 128 * stageCode s)

/-- The code of a link response (R185). -/
def LinkResp.code : LinkResp → Nat
  | .ok => 0
  | .refusedState => 1
  | .refusedBusy => 2
  | .badItem => 3
  | .badCrc => 4

/-- Bytes 0 to 6 of the outgoing frame as it stands when CS# falls (R184, R203, R204). -/
def outgoingBody (s : State) : List Byte :=
  [statusSummary s,
   BitVec.ofNat 8 (s.link.answer.resp.code + 8 * (s.link.answer.index.toNat % 32)),
   s.link.answer.item] ++ leBytes 4 s.link.answer.data.toNat

/-- The outgoing frame, closed with its CRC-8 (R183, R203). -/
def outgoingFrame (s : State) : List Byte := outgoingBody s ++ [crc8 (outgoingBody s)]

/-- SDO: not driven while CS# is high (R182) or RESET# is low (R181, R194). Else the bit of the outgoing frame at the place
that the bits sampled so far leave next, most significant bit of each byte first, and 0 after its eighth byte (R182). -/
def sdo (s : State) : Option Bool :=
  if s.resetLow then none else s.link.sending.map fun out => ((bitsOfBytes out)[s.link.receiver.length]?).getD false

end Sys2Proof.Machine
end

