-- ==== Sys2Proof/Machine/Sums.lean ====
section
/-! DEFINITION. The two-term sum (chapter 5): adding bytes, withdrawing a voided file's share, comparing. -/

namespace Sys2Proof.Machine

open Sys2Proof.Config

/-- The contribution of byte `b` at position `q`: (b × 256^m) mod P with m = q mod 4 (R81). -/
def contribution (q : Nat) (b : Byte) : Nat := (b.toNat * 256 ^ (q % 4)) % sumModulus

/-- Add one byte at position `q` (R81). -/
def TwoSum.addByte (s : TwoSum) (q : Nat) (b : Byte) : TwoSum :=
  { a := (s.a + contribution q b) % sumModulus
    b := (s.b + (q / 4 + 1) * contribution q b) % sumModulus }

/-- Add the bytes whose strobes are set, the first of them at position `q` (R82: byte strobes are honoured byte by
byte). -/
def TwoSum.addBytes (s : TwoSum) : Nat → List (Option Byte) → TwoSum
  | _, [] => s
  | q, some b :: bs => (s.addByte q b).addBytes (q + 1) bs
  | q, none :: bs => s.addBytes (q + 1) bs

/-- Withdraw a file's share from a pack sum: A_f from A, B_f + s × A_f from B, each result in [0, P − 1] (R90). -/
def TwoSum.withdraw (pack file : TwoSum) (s : Nat) : TwoSum :=
  { a := (pack.a + (sumModulus - file.a % sumModulus)) % sumModulus
    b := (pack.b + (sumModulus - (file.b + s * file.a) % sumModulus)) % sumModulus }

/-- Keep the strobes of the positions that satisfy `keep`, the first byte at position `q`. -/
def maskBytes (keep : Nat → Bool) : Nat → List (Option Byte) → List (Option Byte)
  | _, [] => []
  | q, b :: bs => (if keep q then b else none) :: maskBytes keep (q + 1) bs

/-- The file sums equal the expected sums as 32-bit values (R92). -/
def TwoSum.matches (s : TwoSum) (expected : Word × Word) : Bool :=
  s.a == expected.1.toNat && s.b == expected.2.toNat

end Sys2Proof.Machine
end

