-- ==== Sys2Proof/Machine/Ops.lean ====
section
/-! DEFINITION. The named operations over State that every meaning is built from: lanes, frames and entries, open
requests and answers, the pass-through queue, the job queue and its counts, timers, and the guards of a step. -/

namespace Sys2Proof.Machine

open Sys2Proof.Config

/-! ## Outcomes -/

/-- A step of the part: while RESET# is low the part takes nothing, and the state stands (R181, log 8). -/
def live (s : State) (f : State → State) : Host.Outcome State Fault Refusal :=
  .next (if s.resetLow then s else f s)

/-- A step whose term must have the shape of R1, R4 or R9 (log 18). -/
def checked (ok : Bool) (s : State) (f : State → State) : Host.Outcome State Fault Refusal :=
  if ok then live s f else .refused .illFormed

/-! ## Lanes, frames, entries -/

/-- The sixteen lane numbers, ascending (log 20). -/
def laneNos : List LaneNo := [0, 1, 2, 3, 4, 5, 6, 7, 8, 9, 10, 11, 12, 13, 14, 15]

/-- The eight frame numbers, ascending (log 20). -/
def frameNos : List FrameNo := [0, 1, 2, 3, 4, 5, 6, 7]

/-- The context of lane `l` (R18). -/
def State.lane (s : State) (l : LaneNo) : Lane := s.lanes.get l

/-- The frame-table record of frame `f` (R41). -/
def State.frame (s : State) (f : FrameNo) : Frame := s.frames.get f

/-- The class table's entry for class `c` (R43). -/
def State.classFrame (s : State) (c : ClassNo) : Option FrameNo := s.classTable.get c

/-- Change the context of lane `l`. -/
def modLane (l : LaneNo) (g : Lane → Lane) (s : State) : State :=
  { s with lanes := s.lanes.set l.val (g (s.lane l)) l.isLt }

/-- Change the record of frame `f`. -/
def modFrame (f : FrameNo) (g : Frame → Frame) (s : State) : State :=
  { s with frames := s.frames.set f.val (g (s.frame f)) f.isLt }

/-- Change the class table's entry for class `c`. -/
def setClassFrame (c : ClassNo) (f : Option FrameNo) (s : State) : State :=
  { s with classTable := s.classTable.set c.val f c.isLt }

/-- Change the ports. -/
def modPort (g : Port → Port) (s : State) : State := { s with port := g s.port }

/-- Change run control's record. -/
def modRun (g : RunControl → RunControl) (s : State) : State := { s with run := g s.run }

/-- Change the writes that wait untaken on the fabric (R3). -/
def setUntaken (ws : List WriteReq) (s : State) : State := modPort (fun p => { p with untaken := ws }) s

/-- Entry `e` of frame `f`'s index table; absent when `e` is n or more (R95). -/
def State.entry? (s : State) (f : FrameNo) (e : Nat) : Option Entry := (s.frame f).entries[e]?

/-- Change entry `e` of frame `f`; a request whose entry is absent changes nothing (R100). -/
def modEntry (f : FrameNo) (e : Nat) (g : Entry → Entry) (s : State) : State :=
  modFrame f (fun fr => { fr with entries := fr.entries.modify e g }) s

/-- The entry that lane `l` refers to, with its frame and index (R18). -/
def State.currentFile (s : State) (l : LaneNo) : Option (FrameNo × Nat × Entry) :=
  match (s.lane l).file with
  | some (f, e) => (s.entry? f e).map (fun en => (f, e, en))
  | none => none

/-- The number of frames that exist, FRAME_COUNT (R41, R186). -/
def frameCount (s : State) : Nat := s.items.frameCount.toNat

/-- Run an operation for each lane in ascending order (log 20). -/
def forLanes (g : LaneNo → State → State) (s : State) : State := laneNos.foldl (fun t l => g l t) s

/-- Run an operation for each frame in ascending order (log 20). -/
def forFrames (g : FrameNo → State → State) (s : State) : State := frameNos.foldl (fun t f => g f t) s

/-- Leave a lane's name out of the frame wait list (R57: a removal closes the gap). -/
def leaveWaitList (l : LaneNo) (s : State) : State := { s with waitList := s.waitList.filter (· != l) }

/-! ## Open requests and answers (R2, R4) -/

/-- The open-request list of a stream (R2). -/
def State.records (s : State) : Stream → List OpenReq
  | .write => s.port.writes
  | .read => s.port.reads

/-- Put a stream's list. -/
def setRecords (st : Stream) (rs : List OpenReq) (s : State) : State :=
  match st with
  | .write => modPort (fun p => { p with writes := rs }) s
  | .read => modPort (fun p => { p with reads := rs }) s

/-- The stream takes a request: its list holds fewer than 64 records (R2). -/
def State.hasRoom (s : State) (st : Stream) : Bool := decide ((s.records st).length < listCapacity)

/-- The smallest number that none of `used` is (log 6). -/
def freshNat (used : List Nat) : Nat :=
  ((List.range (used.length + 1)).find? (fun n => !used.contains n)).getD used.length

/-- The slot of a new record (log 6). -/
def State.freshSlot (s : State) (st : Stream) : Nat := freshNat ((s.records st).map (·.slot))

/-- The record in a slot. -/
def State.findRecord (s : State) (st : Stream) (slot : Nat) : Option OpenReq :=
  (s.records st).find? (fun r => r.slot == slot)

/-- A record is created when its request is taken (R2). -/
def addRecord (st : Stream) (r : OpenReq) (s : State) : State := setRecords st (s.records st ++ [r]) s

/-- A record is removed when its answer is given (R2). -/
def dropRecord (st : Stream) (slot : Nat) (s : State) : State :=
  setRecords st ((s.records st).filter (fun r => r.slot != slot)) s

/-- Change the record in a slot. -/
def modRecord (st : Stream) (slot : Nat) (g : OpenReq → OpenReq) (s : State) : State :=
  setRecords st ((s.records st).map (fun r => if r.slot == slot then g r else r)) s

/-- Give an answer on the answer path of a stream (R4). -/
def giveAnswer (st : Stream) (tag : Nat) (code : RespCode) (data : List Byte) (s : State) : State :=
  modPort (fun p => { p with answers := p.answers ++ [{ stream := st, tag := tag, code := code, data := data }] }) s

/-- Answer the record in a slot and remove it (R4). -/
def answerRecord (st : Stream) (slot : Nat) (code : RespCode) (data : List Byte) (s : State) : State :=
  match s.findRecord st slot with
  | some r => dropRecord st slot (giveAnswer st r.tag code data s)
  | none => s

/-- Take a request and forward it in one step (R10): its record at stage forwarded, its buffer request at the tail of the
pass-through queue (R11). -/
def takeForwarded (st : Stream) (tag : Nat) (cls : ReqClass) (origin : ReqOrigin) (beats : Nat) (req : BufReq)
    (s : State) : State :=
  let slot := s.freshSlot st
  modPort (fun p => { p with passQ := p.passQ ++ [{ stream := st, slot := slot, req := req }] })
    (addRecord st { slot := slot, tag := tag, cls := cls, origin := origin, stage := .forwarded, beats := beats,
                    preReset := false } s)

/-- The code that a buffer answer's code becomes on the fabric (R13). -/
def bufResp : BufCode → RespCode
  | .okay => .okay
  | .fault => .fault

/-! ## Outstanding buffer requests (R9) -/

/-- The outstanding request with a buffer tag (R9). -/
def State.findOutstanding (s : State) (btag : Nat) : Option Outstanding :=
  s.port.outstanding.find? (fun o => o.btag == btag)

/-- The port matches an answer and removes the origin record (R9). -/
def dropOutstanding (btag : Nat) (s : State) : State :=
  modPort (fun p => { p with outstanding := p.outstanding.filter (fun o => o.btag != btag) }) s

/-- A new buffer tag: distinct from every outstanding tag (R9) and from every late one (R17); the smallest such number
(log 6). -/
def State.freshBtag (s : State) : Nat := freshNat (s.port.outstanding.map (·.btag) ++ s.port.late)

/-- Issue a buffer request with a new tag (R9). -/
def issue (origin : BufOrigin) (req : BufReq) (s : State) : State :=
  modPort (fun p => { p with outstanding := p.outstanding ++ [{ btag := s.freshBtag, origin := origin, req := req }] }) s

/-- A buffer answer with a tag: handed to the origin of its request (R13). A tag that is neither outstanding nor late has
no origin (log 11); one kept as late belongs to LATE_ANSWER_DISCARD alone (R17). -/
def answered (btag : Nat) (s : State) (k : Outstanding → State → Host.Outcome State Fault Refusal) :
    Host.Outcome State Fault Refusal :=
  if s.resetLow then .next s
  else
    match s.findOutstanding btag with
    | some o => k o s
    | none => if s.port.late.contains btag then .next s else .fault .unmatchedBufferAnswer

/-- The beats of read data that answer a buffer request (R4); a write is answered without data. -/
def BufReq.dataBytes (r : BufReq) : Nat :=
  match r.body with
  | .write _ => 0
  | .read beats => 8 * beats

/-- The bytes with strobes of a buffer write; none for a read. -/
def BufReq.writeBytes (r : BufReq) : List (Option Byte) :=
  match r.body with
  | .write bytes => bytes
  | .read _ => []

/-- A buffer answer to a fabric record: the record found, the origin record removed, and the data of the request's
length. -/
def answeredRecord (btag : Nat) (data : Option (List Byte)) (s : State)
    (k : Stream → OpenReq → Outstanding → State → State) : Host.Outcome State Fault Refusal :=
  answered btag s fun o s =>
    match o.origin with
    | .fabric st slot =>
      match s.findRecord st slot with
      | some r =>
        if (data.all fun d => d.length == o.req.dataBytes) then .next (k st r o s) else .refused .illFormed
      | none => .next s
    | _ => .next s

/-! ## The job queue and its counts (R109, R110) -/

/-- The lane job count: the lane's file jobs queued or in progress (R110). -/
def State.laneJobs (s : State) (l : LaneNo) : Nat := s.fill.queue.countP (fun j => j.lane == some l)

/-- The frame job count: the jobs into the frame (R110). -/
def State.frameJobs (s : State) (f : FrameNo) : Nat := s.fill.queue.countP (fun j => j.frame == f)

/-- The progress of a job that has just become current (R113). -/
def Job.begin (j : Job) : Progress := { next := j.start, issued := 0, answered := 0 }

/-- A job joins the tail; the first of an empty queue becomes current (R109). -/
def enqueueJob (j : Job) (s : State) : State :=
  { s with fill := { queue := s.fill.queue ++ [j]
                     progress := if s.fill.queue.isEmpty then some j.begin else s.fill.progress } }

/-! ## Sizes (R44) and addresses (R5, R15) -/

/-- The frame size F = 2^FRAME_SIZE_CODE (section 1.2 of 01). -/
def frameSize (s : State) : Nat := 2 ^ s.items.frameSizeCode.toNat

/-- The record size R = roundup(64 + L, 512) (R44). -/
def recordSize (len : Nat) : Nat := roundup512 (64 + len)

/-- The directory area dir(x) = roundup(64 × (x + 1), 512) (R44). -/
def dirSize (x : Nat) : Nat := roundup512 (64 * (x + 1))

/-- A 48-bit value of its low and high items (R186). -/
def wide (lo hi : Word) : Addr := BitVec.ofNat 48 (lo.toNat + 4294967296 * hi.toNat)

/-- APERTURE_BASE (R186). -/
def apertureBase (s : State) : Addr := wide s.items.apertureBaseLo s.items.apertureBaseHi

/-- FRAME_BASE (R186). -/
def frameBase (s : State) : Addr := wide s.items.frameBaseLo s.items.frameBaseHi

/-- PACK_SERIAL_BASE (R186). -/
def packSerialBase (s : State) : Serial := wide s.items.packSerialBaseLo s.items.packSerialBaseHi

/-- The buffer address FRAME_BASE + f × F + offset, modulo 2^48 (R5, R15, R63). -/
def frameAddr (s : State) (f : FrameNo) (off : Nat) : Addr :=
  frameBase s + BitVec.ofNat 48 (f.val * frameSize s + off)

/-! ## Timers (R162) -/

/-- A deadline started now, its expiry not reported. -/
def startTimer (s : State) : Timer := { start := s.tick, reported := false }

/-- The elapsed time is at least the limit, modulo 2^32 (R162). -/
def expired (now start : Tick) (limit : Nat) : Bool := decide (limit ≤ (now - start).toNat)

/-- A lane's pad range off + 64 + L to off + R is empty (R75). -/
def padEmpty (len : Nat) : Bool := (64 + len) % 512 == 0

end Sys2Proof.Machine
end

