-- ==== Sys2Proof/WellFormed.lean ====
section
/-! DEFINITION. Which terms of `Instr` are commands at all: the shapes of R1 (requests), R4 and R9 (answers). A meaning refuses a term that fails its check by the name `illFormed` (log 18). -/

namespace Sys2Proof

/-- A write moves 1 to 16 whole beats of 8 bytes (R1). -/
def WriteReq.wf (w : WriteReq) : Bool :=
  w.bytes.length % 8 == 0 && decide (8 ≤ w.bytes.length) && decide (w.bytes.length ≤ 128)

/-- A read asks for 1 to 16 beats (R1). -/
def ReadReq.wf (r : ReadReq) : Bool :=
  decide (1 ≤ r.beats) && decide (r.beats ≤ 16)

/-- A presented write has the shape of R1; a waiting write was presented in that shape. -/
def WriteSource.wf : WriteSource → Bool
  | .present w => w.wf
  | .waiting _ => true

/-- A request of either stream has the shape of R1. -/
def FabricReq.wf : FabricReq → Bool
  | .write w => w.wf
  | .read r => r.wf

/-- Answer data are whole beats, at most 16 of them (R1, R4). -/
def dataWf (data : List Byte) : Bool :=
  data.length % 8 == 0 && decide (data.length ≤ 128)

/-- The well-formed commands. -/
def Instr.wf : Instr → Bool
  | .shapeCheckRefusal r => r.wf
  | .plainRequest r => r.wf
  | .frameRegionWrite w => w.wf
  | .announce w => w.wf
  | .controlAreaWrite w => w.wf
  | .bodyWrite w => w.wf
  | .statusRead r => r.wf
  | .mixedRead r => r.wf
  | .bodyRead r => r.wf
  | .frameRegionRead r => r.wf
  | .arbiterGrant => true
  | .plainBufferAnswer _ a => dataWf a.data
  | .bodyWriteOkay _ => true
  | .bodyWriteFault _ => true
  | .bodyReadAnswer _ a => dataWf a.data
  | .drainReadOkay _ data => dataWf data
  | .drainReadFault _ => true
  | .fillBurstOkay _ => true
  | .fillBurstFault _ => true
  | .passThroughAfterCoreReset _ a => dataWf a.data
  | .lateAnswerDiscard _ => true
  | .fillJobComplete => true
  | .fileCompletion _ => true
  | .voidEnd _ => true
  | .heldAnnounceRetry _ => true
  | .sealReady _ => true
  | .drainEvaluation _ => true
  | .freePulse => true
  | .tickAdvance => true
  | .ageExpiry _ => true
  | .laneTimerExpiry _ => true
  | .holdTimeoutExpiry _ => true
  | .drainTimeoutExpiry _ => true
  | .stopComplete => true
  | .coreClear => true
  | .linkFrameDiscard _ _ => true
  | .badItem _ => true
  | .configItemWrite _ _ _ => true
  | .timerLimitWrite _ _ _ => true
  | .attnMaskWrite _ _ => true
  | .indexSelect _ _ => true
  | .attnCauseRead _ => true
  | .sealNextPop => true
  | .start _ => true
  | .stop _ => true
  | .halt _ => true
  | .enterConfig _ => true
  | .resetCore _ => true
  | .flushClass _ => true
  | .release _ => true
  | .discard _ => true
  | .redrain _ => true
  | .resetAssert => true
  | .hardReset => true

end Sys2Proof
end

