-- ==== Sys2Proof/Machine/Operands.lean ====
section
/-! DEFINITION. What a command's operands mean: the address classes and the shape check of the fabric port (R5 to R7),
the kinds of lane writes and reads (R20, R23), the fields of an announce (R196, R205) and its validation (R24), and the
clamping and claiming of a body write (R63 to R68). -/

namespace Sys2Proof.Machine

open Sys2Proof.Config

/-! ## Address classes -/

/-- The address lies in the aperture region (R5). -/
def inAperture (s : State) (a : Addr) : Bool := decide ((a - apertureBase s).toNat < 16 * frameSize s)

/-- The address lies in the frame region (R5). -/
def inFrameRegion (s : State) (a : Addr) : Bool := decide ((a - frameBase s).toNat < frameCount s * frameSize s)

/-- The shape check of R7 fails: the address is no multiple of 8, or the span of `n` bytes crosses a 4,096-byte
boundary. -/
def shapeFails (a : Addr) (n : Nat) : Bool :=
  a.toNat % 8 != 0 || a.toNat / 4096 != (a + BitVec.ofNat 48 (n - 1)).toNat / 4096

/-- Some byte of the span lies in the aperture region or the frame region (R7). -/
def touchesRegions (s : State) (a : Addr) (n : Nat) : Bool :=
  (List.range n).any fun i => inAperture s (a + BitVec.ofNat 48 i) || inFrameRegion s (a + BitVec.ofNat 48 i)

/-- How the fabric port routes a request (R6, R7). -/
inductive Route where
  | plain
  | refusedShape
  | aperture (l : LaneNo) (off : Nat)
  | frame (f : FrameNo) (off : Nat)
  deriving DecidableEq, Repr

/-- The class by the first byte, with lane or frame number and offset (R5). -/
def classByFirstByte (s : State) (a : Addr) : Route :=
  let d := (a - apertureBase s).toNat
  let e := (a - frameBase s).toNat
  if inAperture s a then .aperture (Fin.ofNat 16 (d / frameSize s)) (d % frameSize s)
  else if inFrameRegion s a then .frame (Fin.ofNat 8 (e / frameSize s)) (e % frameSize s)
  else .plain

/-- The route of a request at address `a` of `n` bytes, when the port takes it in the global state of that moment
(R6, R7, R8). -/
def route (s : State) (a : Addr) (n : Nat) : Route :=
  if s.run.global == .config then .plain
  else if shapeFails a n then (if touchesRegions s a n then .refusedShape else .plain)
  else classByFirstByte s a

/-- The route of a write. -/
def routeWrite (s : State) (w : WriteReq) : Route := route s w.addr w.bytes.length

/-- The route of a read. -/
def routeRead (s : State) (r : ReadReq) : Route := route s r.addr (8 * r.beats)

/-! ## Untaken writes (R3) -/

/-- The write is addressed to lane `l` in the present state and layout (R3, R8). -/
def addressedTo (s : State) (l : LaneNo) (w : WriteReq) : Bool :=
  match routeWrite s w with
  | .aperture k _ => k == l
  | _ => false

/-- The write intake of lane `l`: the untaken writes addressed to it, in the order of their presentation; empty in CONFIG
(R3). -/
def State.intake (s : State) (l : LaneNo) : List WriteReq := s.port.untaken.filter (addressedTo s l)

/-- The write that a source names (R3). -/
def State.sourceWrite (s : State) : WriteSource → Option WriteReq
  | .present w => some w
  | .waiting n => s.port.untaken[n]?

/-- The untaken writes that the fabric presented before it (R3). -/
def State.presentedBefore (s : State) : WriteSource → List WriteReq
  | .present _ => s.port.untaken
  | .waiting n => s.port.untaken.take n

/-- The write stands at the head of the intake of lane `l`, or joins it as its head (R3). -/
def State.headOf (s : State) (l : LaneNo) (src : WriteSource) : Bool := !(s.presentedBefore src).any (addressedTo s l)

/-- The write is taken: it waits no longer (R3). -/
def leaveFabric (src : WriteSource) (s : State) : State :=
  match src with
  | .present _ => s
  | .waiting n => setUntaken (s.port.untaken.eraseIdx n) s

/-- The write is left untaken: a presented one joins the tail of its intake, and a waiting one keeps its place (R3). -/
def leaveUntaken (src : WriteSource) (s : State) : State :=
  match src with
  | .present w => setUntaken (s.port.untaken ++ [w]) s
  | .waiting _ => s

/-! ## Lane writes and reads -/

/-- The kinds of a lane write (R20). -/
inductive LaneWriteKind where
  | announce
  | controlArea
  | body
  deriving DecidableEq, Repr

/-- The kind of a lane write at aperture offset `off` (R20). -/
def laneWriteKind (off : Nat) (bytes : List (Option Byte)) : LaneWriteKind :=
  if off == 0 && bytes.length == 64 && bytes.all Option.isSome then .announce
  else if off < 64 then .controlArea
  else .body

/-- The kinds of an aperture read (R23). -/
inductive LaneReadKind where
  | status
  | mixed
  | body
  deriving DecidableEq, Repr

/-- The kind of an aperture read of `n` bytes at aperture offset `off` (R23). -/
def laneReadKind (off n : Nat) : LaneReadKind :=
  if off + n ≤ 64 then .status else if off < 64 then .mixed else .body

/-! ## Announces -/

/-- The fields of an announce record as written (R196, R205). -/
structure RawAnnounce where
  marker : Word
  version : Byte
  cls : Byte
  flags : BitVec 16
  len : BitVec 64
  wtag : BitVec 64
  digest : BitVec 256
  expA : Word
  expB : Word
  deriving DecidableEq, Repr

/-- Read the fields from the positions of R196, little-endian. -/
def parseAnnounce (bytes : List Byte) : RawAnnounce :=
  { marker := BitVec.ofNat 32 (leField 0 4 bytes)
    version := BitVec.ofNat 8 (leField 4 1 bytes)
    cls := BitVec.ofNat 8 (leField 5 1 bytes)
    flags := BitVec.ofNat 16 (leField 6 2 bytes)
    len := BitVec.ofNat 64 (leField 8 8 bytes)
    wtag := BitVec.ofNat 64 (leField 16 8 bytes)
    digest := BitVec.ofNat 256 (leField 24 32 bytes)
    expA := BitVec.ofNat 32 (leField 56 4 bytes)
    expB := BitVec.ofNat 32 (leField 60 4 bytes) }

/-- The weight 1 of the announce flags, SUM_GIVEN (R196). -/
def RawAnnounce.sumGiven (a : RawAnnounce) : Bool := a.flags.getLsbD 0

/-- The weight 2 of the announce flags, SEAL_AFTER (R196). -/
def RawAnnounce.sealAfter (a : RawAnnounce) : Bool := a.flags.getLsbD 1

/-- An announce of length `len` is oversize for the frame size in effect (R46). -/
def oversize (s : State) (len : Nat) : Bool :=
  decide (2 ^ 40 ≤ len) || decide (packHeadBytes + recordSize len + granule > frameSize s)

/-- The four tests in order; the code of the first that fails (R24). -/
def validateAnnounce (s : State) (a : RawAnnounce) : Option ResultCode :=
  if a.marker != announceMarker || a.version != announceVersion then some .refusedMalformed
  else if s.run.global != .running then some .refusedStopping
  else if decide (3 < a.cls.toNat) || !s.items.classEnable.getLsbD a.cls.toNat then some .refusedClass
  else if oversize s a.len.toNat then some .refusedOversize
  else none

/-- The fields of a valid announce that are held, placed and copied; other flag bits are ignored (R24, R205). -/
def RawAnnounce.valid (a : RawAnnounce) : Announce :=
  { cls := Fin.ofNat 4 a.cls.toNat, sumGiven := a.sumGiven, sealAfter := a.sealAfter, len := a.len.toNat,
    wtag := a.wtag, digest := a.digest, expA := a.expA, expB := a.expB }

/-! ## Body writes -/

/-- Beats of a request of `n` bytes at body offset `k` whose first body offset is below L (R64, R72). -/
def keptBeats (len k n : Nat) : Nat := if k < len then min (n / 8) ((len - k + 7) / 8) else 0

/-- The forwarded bytes: whole beats past L dropped, strobes at L and above cleared (R64). -/
def clampBytes (len k : Nat) (bytes : List (Option Byte)) : List (Option Byte) :=
  maskBytes (fun q => decide (q < len)) k (bytes.take (8 * keptBeats len k bytes.length))

/-- The positions of the bytes whose strobes are set, the first byte at position `k`. -/
def strobedAt : Nat → List (Option Byte) → List Nat
  | _, [] => []
  | k, some _ :: bs => k :: strobedAt (k + 1) bs
  | k, none :: bs => strobedAt (k + 1) bs

/-- The in-range bytes as one unbroken range of body offsets, if they are one (R65). -/
def claimRange (len k : Nat) (bytes : List (Option Byte)) : Option Extent :=
  match strobedAt k (clampBytes len k bytes) with
  | [] => none
  | q :: qs => if qs.getLastD q == q + qs.length then some { start := q, stop := q + qs.length + 1 } else none

/-- No strobe below L is set (R65, first row of its table; R64, every beat dropped). -/
def nothingInRange (len k : Nat) (bytes : List (Option Byte)) : Bool := (strobedAt k (clampBytes len k bytes)).isEmpty

/-- Some byte of the claim range lies within an extent (R67). -/
def overlaps (c : Extent) (es : List Extent) : Bool :=
  es.any fun e => decide (e.start < c.stop) && decide (c.start < e.stop)

/-- The extent list with a claim range merged in, adjacent extents joined (R68). -/
def mergeExtents (c : Extent) (es : List Extent) : List Extent :=
  let start := ((es.find? fun e => e.stop == c.start).map (·.start)).getD c.start
  let stop := ((es.find? fun e => e.start == c.stop).map (·.stop)).getD c.stop
  (es.filter fun e => decide (e.stop < c.start)) ++ [{ start := start, stop := stop }]
    ++ (es.filter fun e => decide (c.stop < e.start))

/-- The total length of the extents (R66, R69). -/
def claimedBytes (es : List Extent) : Nat := (es.map fun e => e.stop - e.start).sum

/-- Any part of the span lies at body offset L or above (R64). -/
def pastEnd (len k n : Nat) : Bool := decide (len < k + n)

/-- What a RECEIVING lane does with a body write (R64 to R69). -/
inductive BodyPlan where
  /-- Answered OKAY without forwarding; `clamped` says that it reaches past L (R64, R65). -/
  | noted (clamped : Bool)
  /-- Answered REFUSED: broken range, overlap, or a ninth extent (R65, R67, R68). -/
  | refused
  /-- Forwarded with these bytes, claiming this range; the merged list follows (R69). -/
  | forward (bytes : List (Option Byte)) (claim : Extent) (extents : List Extent)
  deriving DecidableEq, Repr

/-- The plan for a body write of `bytes` at body offset `k` of a file of length `len`, against the lane's extents. -/
def bodyPlan (len : Nat) (es : List Extent) (k : Nat) (bytes : List (Option Byte)) : BodyPlan :=
  if nothingInRange len k bytes then .noted (pastEnd len k bytes.length)
  else
    match claimRange len k bytes with
    | none => .refused
    | some c =>
      if overlaps c es then .refused
      else if decide (extentCapacity < (mergeExtents c es).length) then .refused
      else .forward (clampBytes len k bytes) c (mergeExtents c es)

/-- Read data with every byte at body offset L or above zero, and the dropped beats as zero up to `n` bytes (R72). -/
def clampData (len : Nat) : Nat → Nat → List Byte → List Byte
  | _, 0, _ => []
  | k, n + 1, [] => 0 :: clampData len (k + 1) n []
  | k, n + 1, b :: bs => (if k < len then b else 0) :: clampData len (k + 1) n bs

end Sys2Proof.Machine
end

