-- ==== Sys2Proof/Machine/Sealing.lean ====
section
/-! DEFINITION. The seal unit and the sealing of frames (R54, R55, chapter 8): entering SEALING, readiness, the DIRECTORY
job, the end of sealing, and the seal queue. -/

namespace Sys2Proof.Machine

/-- An entry still in PLACED or VOIDING (R125). -/
def Entry.pending (e : Entry) : Bool := e.state == .placed || e.state == .voiding

/-- The three conditions of readiness (R125). -/
def sealIsReady (s : State) (f : FrameNo) : Bool :=
  (s.frame f).stage == .gathering && !(s.frame f).entries.any Entry.pending && s.frameJobs f == 0

/-- image_length as a sealed frame's cursor and entry count give it (R44, R126). -/
def Frame.finalLength (fr : Frame) : Nat := fr.cursor + dirSize fr.entries.length

/-- The DIRECTORY job of a ready frame, its source taken at enqueue (R108, R126). -/
def directoryJob (f : FrameNo) (fr : Frame) : Job :=
  { kind := .directory, frame := f, lane := none, start := fr.cursor, stop := fr.finalLength
    source := .directory fr.cursor fr.entries.length fr.finalLength fr.serial }

/-- A ready frame gets its image_length and its DIRECTORY job, and moves to WRITING (R126). -/
def makeReady (f : FrameNo) (s : State) : State :=
  enqueueJob (directoryJob f (s.frame f))
    (modFrame f (fun fr => { fr with imageLength := some fr.finalLength, stage := .writing }) s)

/-- The seal unit examines a frame (R125, R127). -/
def examine (f : FrameNo) (s : State) : State := if sealIsReady s f then makeReady f s else s

/-- A frame leaves OPEN for SEALING: state, cause, tick, stage; the class table entry of its class is emptied (R54,
R124). -/
def markSealing (f : FrameNo) (cause : SealCause) (s : State) : State :=
  let t := modFrame f (fun fr => { fr with state := .sealing, sealCause := some cause, sealTick := some s.tick
                                           stage := .gathering, ageReported := false }) s
  match (s.frame f).cls with
  | some c => setClassFrame c none t
  | none => t

/-- A frame enters SEALING, and the seal unit examines it at once (R54, R124). -/
def enterSealing (f : FrameNo) (cause : SealCause) (s : State) : State := examine f (markSealing f cause s)

/-- A request to seal a frame: made when it is OPEN, dropped otherwise (R42, R55). -/
def requestSeal (f : FrameNo) (cause : SealCause) (s : State) : State :=
  if (s.frame f).state == .opened then enterSealing f cause s else s

/-- Append a frame at the tail of the seal queue (R132). -/
def appendSealQ (f : FrameNo) (s : State) : State := { s with sealQ := s.sealQ ++ [f] }

/-- Remove a frame from the seal queue, wherever it stands (R133). -/
def leaveSealQ (f : FrameNo) (s : State) : State := { s with sealQ := s.sealQ.filter (· != f) }

/-- A frame enters HELD: the counter of packs held rises and PACK_HELD is set (R128, R148, R190). -/
def countHeld (s : State) : State := raisePackHeld (modRun (fun r => { r with heldN := r.heldN + 1 }) s)

/-- The end of sealing, in the step in which the DIRECTORY job completes (R128). -/
def sealComplete (f : FrameNo) (s : State) : State :=
  if (s.frame f).state == .sealing && (s.frame f).stage == .writing then
    if (s.frame f).imageFault then
      countHeld (modFrame f (fun fr => { fr with state := .held, cls := none, stage := .none
                                                 drain := some Drain.reset }) s)
    else
      modRun (fun r => { r with sealedN := r.sealedN + 1 })
        (appendSealQ f (modFrame f (fun fr => { fr with state := .sealed, cls := none, stage := .none
                                                        drain := some Drain.reset }) s))
  else s

end Sys2Proof.Machine
end

