-- ==== Sys2Proof/Machine/Files.lean ====
section
/-! DEFINITION. The lanes' files: results (R35, R36), placement (chapter 3), completion (R75, R76), voids (R77 to R79), and
the frame wait list's wake pass (R59). -/

namespace Sys2Proof.Machine

open Sys2Proof.Config

/-! ## Results -/

/-- Append a result to a lane's queue; a full queue first drops its oldest, counted up to 255 (R36). -/
def Lane.pushResult (r : Result) (ln : Lane) : Lane :=
  if ln.results.length < resultCapacity then { ln with results := ln.results ++ [r] }
  else { ln with results := ln.results.tail ++ [r]
                 dropped := if ln.dropped == 255#8 then ln.dropped else ln.dropped + 1 }

/-- A lane appends a result (R35). -/
def appendResult (l : LaneNo) (r : Result) (s : State) : State := modLane l (Lane.pushResult r) s

/-- A refusal result, with the announce's fields as written (R35, R205). -/
def refusalResult (code : ResultCode) (sumGiven sealAfter : Bool) (wtag len : BitVec 64) : Result :=
  { code := code, placed := false, sumGiven := sumGiven, sealAfter := sealAfter, mismatch := false, entry := 0
    serial := 0, off := 0, sumA := 0, sumB := 0, wtag := wtag, len := len }

/-- A refusal is recorded: result, counter, LANE_ERR (R25, R31, R32, R39). -/
def recordRefusal (l : LaneNo) (r : Result) (s : State) : State :=
  raiseLaneErr (modLane l (fun ln => { ln.pushResult r with refusedAnn := ln.refusedAnn + 1 }) s)

/-- The refusal result of a held announce (R31, R32). -/
def Announce.refusal (a : Announce) (code : ResultCode) : Result :=
  refusalResult code a.sumGiven a.sealAfter a.wtag (BitVec.ofNat 64 a.len)

/-- The result of a void, by its cause (R35, R79). -/
def VoidCause.result : VoidCause → ResultCode
  | .timeout => .voidTimeout
  | .superseded => .voidSuperseded
  | .memfault => .voidMemfault
  | .halt => .voidHalt

/-- The result of a file of frame record `fr`, entry index `e` (R35). -/
def fileResult (code : ResultCode) (mismatch : Bool) (sums : TwoSum) (e : Nat) (en : Entry) (fr : Frame) : Result :=
  { code := code, placed := true, sumGiven := en.sumGiven, sealAfter := en.sealAfter, mismatch := mismatch, entry := e
    serial := fr.serial, off := en.off, sumA := sums.a, sumB := sums.b, wtag := en.wtag
    len := BitVec.ofNat 64 en.len }

/-! ## Completion -/

/-- SUM_GIVEN is set and the file sums differ from the expected sums (R92). -/
def Entry.differs (en : Entry) : Bool :=
  match en.expected with
  | some x => !en.sums.matches x
  | none => false

/-- The index entry at completion (R76 step 1, R98; R100: only from PLACED). -/
def Entry.completed (now : Tick) (en : Entry) : Entry :=
  if en.state == .placed then
    { en with state := .complete, endTick := some now, received := en.len, mismatch := en.differs }
  else en

/-- The PAD job of a file (R76 step 2, R108). -/
def padJob (l : LaneNo) (f : FrameNo) (en : Entry) : Job :=
  { kind := .pad, frame := f, lane := some l, start := en.off + 64 + en.len, stop := en.off + recordSize en.len
    source := .zeros }

/-- A PAD job is enqueued when the pad range is not empty (R76 step 2, R28). -/
def enqueuePad (l : LaneNo) (f : FrameNo) (en : Entry) (s : State) : State :=
  if padEmpty en.len then s else enqueueJob (padJob l f en) s

/-- The lane after its file's completion (R76 step 4, R28). -/
def Lane.finished (ln : Lane) : Lane :=
  { ln with state := .idle, held := none, file := none, extents := [], outstanding := 0, timer := none
            firstWrite := false, muteMark := false, voidCause := none, lastWrite := none }

/-- The completion result of a file (R35). -/
def completionResult (e : Nat) (en : Entry) (fr : Frame) : Result :=
  fileResult (if en.differs then .completeMismatch else .complete) en.differs en.sums e en fr

/-- The record of a file's end in its lane: result, counter, IDLE (R76 steps 3 and 4). -/
def laneCompletes (l : LaneNo) (r : Result) (s : State) : State :=
  modLane l (fun ln => { (ln.pushResult r).finished with completed := ln.completed + 1 }) s

/-- A completed file carrying SEAL_AFTER asks for its frame's seal (R76 step 6, R55). -/
def sealAfterRequest (f : FrameNo) (en : Entry) (s : State) : State :=
  if en.sealAfter then requestSeal f .sealAfter s else s

/-- A file completes: the seven steps of R76, the answer given to the write in `slot`. -/
def finishFile (l : LaneNo) (f : FrameNo) (e : Nat) (en : Entry) (slot : Nat) (s : State) : State :=
  examine f <| sealAfterRequest f en <| answerRecord .write slot .okay [] <|
    laneCompletes l (completionResult e en (s.frame f)) <| enqueuePad l f en <|
      modEntry f e (Entry.completed s.tick) s

/-- The file's extents are the single extent [0, L) and no write is outstanding (R75). -/
def isWritten (s : State) (l : LaneNo) (en : Entry) : Bool :=
  (s.lane l).state == .receiving && (s.lane l).extents == [{ start := 0, stop := en.len }]
    && (s.lane l).outstanding == 0

/-- Job room for a completion: the pad range is empty, or at most one job of the lane is counted (R75, R119). -/
def jobRoom (s : State) (l : LaneNo) (en : Entry) : Bool := padEmpty en.len || decide (s.laneJobs l ≤ 1)

/-- A written file with job room completes; its held-back answer is the one in `lastWrite` (R75). -/
def tryComplete (l : LaneNo) (s : State) : State :=
  match (s.lane l).lastWrite, s.currentFile l with
  | some slot, some (f, e, en) =>
    if (s.lane l).state == .receiving && jobRoom s l en then finishFile l f e en slot s else s
  | _, _ => s

/-- The file becomes written: the lane timer stops and the answer of its last write is held back (R75). -/
def holdLastAnswer (l : LaneNo) (slot : Nat) (s : State) : State :=
  modRecord .write slot (fun r => { r with stage := .pendingOwner .okay [] })
    (modLane l (fun ln => { ln with timer := none, lastWrite := some slot }) s)

/-! ## Placement -/

/-- The announce fits the frame (R45). -/
def fits (s : State) (f : FrameNo) (len : Nat) : Bool :=
  decide ((s.frame f).entries.length + 1 ≤ entryCapacity)
    && decide ((s.frame f).cursor + recordSize len + dirSize ((s.frame f).entries.length + 1) ≤ frameSize s)

/-- The jobs a placement enqueues for the lane (R49). -/
def jobsToAdd (len : Nat) : Nat := if len = 0 then 2 else 1

/-- The job test (R49). -/
def jobTest (s : State) (l : LaneNo) (len : Nat) : Bool := decide (s.laneJobs l + jobsToAdd len ≤ laneJobLimit)

/-- The OPEN frame of a class, if there is one (R43, R48 step 2). -/
def openFrameOf (s : State) (c : ClassNo) : Option FrameNo :=
  (s.classFrame c).filter fun f => (s.frame f).state == .opened

/-- The lowest-numbered FREE frame (R48 step 5, R50). -/
def lowestFree (s : State) : Option FrameNo :=
  frameNos.find? fun f => decide (f.val < frameCount s) && (s.frame f).state == .free

/-- The frame record of a newly opened pack (R50). -/
def Frame.opening (c : ClassNo) (serial : Serial) (now : Tick) : Frame :=
  { Frame.free with state := .opened, cls := some c, serial := serial, cursor := packHeadBytes, openTick := now }

/-- The PACK_HEAD job, its source taken at enqueue (R108). -/
def packHeadJob (f : FrameNo) (serial : Serial) (c : ClassNo) (sizeCode : Word) (now : Tick) : Job :=
  { kind := .packHead, frame := f, lane := none, start := 0, stop := packHeadBytes
    source := .packHead serial c sizeCode now }

/-- Open frame `f` for class `c` (R50). -/
def openFrame (f : FrameNo) (c : ClassNo) (s : State) : State :=
  enqueueJob (packHeadJob f s.nextSerial c s.items.frameSizeCode s.tick)
    (modRun (fun r => { r with opened := r.opened + 1 })
      (setClassFrame c (some f)
        { modFrame f (fun _ => Frame.opening c s.nextSerial s.tick) s with nextSerial := s.nextSerial + 1 }))

/-- The entry of a newly placed file (R51, R97). -/
def Announce.entry (a : Announce) (l : LaneNo) (off : Nat) (now : Tick) : Entry :=
  { state := .placed, lane := l, off := off, len := a.len, received := 0, cls := a.cls, sumGiven := a.sumGiven
    sealAfter := a.sealAfter, mismatch := false
    expected := if a.sumGiven then some (a.expA, a.expB) else none
    sums := .zero, arrival := now, endTick := none, wtag := a.wtag, digest := a.digest }

/-- The FILE_HEAD job of a file (R51, R108). -/
def fileHeadJob (l : LaneNo) (f : FrameNo) (e off : Nat) : Job :=
  { kind := .fileHead, frame := f, lane := some l, start := off, stop := off + 64, source := .fileHead e }

/-- The entry, the cursor, the FILE_HEAD job and the wait list of a placement (R51). -/
def addEntry (l : LaneNo) (a : Announce) (f : FrameNo) (s : State) : State :=
  leaveWaitList l
    (enqueueJob (fileHeadJob l f (s.frame f).entries.length (s.frame f).cursor)
      (modFrame f (fun fr => { fr with entries := fr.entries ++ [a.entry l fr.cursor s.tick]
                                       cursor := fr.cursor + recordSize a.len }) s))

/-- threshold_bytes = floor(F × T / 256) (R44). -/
def thresholdBytes (s : State) : Nat := frameSize s * s.items.sealThreshold.toNat / 256

/-- The checks after a placement (R52). -/
def sealAfterPlacement (f : FrameNo) (s : State) : State :=
  if decide (s.items.sealThreshold.toNat < 256) && decide (thresholdBytes s ≤ (s.frame f).cursor) then
    requestSeal f .threshold s
  else if (s.frame f).entries.length == entryCapacity then requestSeal f .entryLimit s
  else s

/-- The lane takes its file reference and enters RECEIVING, its lane timer started (R27). -/
def Lane.receive (f : FrameNo) (e : Nat) (t : Timer) (ln : Lane) : Lane :=
  { ln with state := .receiving, held := none, file := some (f, e), extents := [], outstanding := 0, timer := some t
            firstWrite := false, muteMark := false, voidCause := none, lastWrite := none }

/-- The lane's side of a placed outcome (R27, R28); the announce's write stands in `slot`. -/
def acceptPlaced (l : LaneNo) (f : FrameNo) (e : Nat) (slot : Nat) (en : Entry) (s : State) : State :=
  if en.len = 0 then finishFile l f e en slot s
  else answerRecord .write slot .okay [] (modLane l (Lane.receive f e (startTimer s)) s)

/-- The file is placed in frame `f`, the frame is tested, and the lane acts on the outcome (R51, R52, R27, R28). -/
def placeFile (l : LaneNo) (a : Announce) (slot : Nat) (f : FrameNo) (s : State) : State :=
  acceptPlaced l f (s.frame f).entries.length slot (a.entry l (s.frame f).cursor s.tick)
    (sealAfterPlacement f (addEntry l a f s))

/-- The lane holds an announce in WAITING (R27, R29). -/
def Lane.wait (a : Announce) (reason : WaitReason) (t : Timer) (slot : Nat) (ln : Lane) : Lane :=
  { ln with state := .waiting, held := some { ann := a, reason := reason, timer := t, slot := slot }, file := none
            extents := [], outstanding := 0, timer := none, firstWrite := false, muteMark := false, voidCause := none
            lastWrite := none }

/-- A lane joins the frame wait list at the tail, and FRAME_SHORT is set (R57, R190). -/
def joinWaitList (l : LaneNo) (s : State) : State :=
  raiseFrameShort { s with waitList := s.waitList.filter (· != l) ++ [l] }

/-- The held outcome of a placement request (R48 steps 1 and 6, R27). -/
def holdPlaced (l : LaneNo) (a : Announce) (reason : WaitReason) (slot : Nat) (s : State) : State :=
  let t := modLane l (Lane.wait a reason (startTimer s) slot) s
  if reason == .noFrame then joinWaitList l t else t

/-- The decision from step 5 of R48 on: open the lowest FREE frame and place, or hold with NO_FRAME. -/
def placeInNew (l : LaneNo) (a : Announce) (slot : Nat) (s : State) : State :=
  match lowestFree s with
  | some g => placeFile l a slot g (openFrame g a.cls s)
  | none => holdPlaced l a .noFrame slot s

/-- The placement unit decides a placement request, and the lane acts on the outcome (R48, R27). The record of the
announce's write stands in `slot`. -/
def requestPlacement (l : LaneNo) (a : Announce) (slot : Nat) (s : State) : State :=
  if !jobTest s l a.len then holdPlaced l a .jobLimit slot s
  else
    match openFrameOf s a.cls with
    | some f =>
      if fits s f a.len then placeFile l a slot f s
      else placeInNew l a slot (enterSealing f .misfit s)
    | none => placeInNew l a slot s

/-- The two conditions of a visit (R59). -/
def visitMayPlace (s : State) (a : Announce) : Bool :=
  (lowestFree s).isSome || ((openFrameOf s a.cls).any fun f => fits s f a.len)

/-- The visit of one lane in a wake pass (R59). -/
def wakeLane (l : LaneNo) (s : State) : State :=
  match (s.lane l).held with
  | some h =>
    if h.reason == .noFrame && visitMayPlace s h.ann then requestPlacement l h.ann h.slot (leaveWaitList l s) else s
  | none => s

/-- A wake pass: the lanes of the wait list once, in the order they stand when the pass begins (R59). -/
def wakePass (s : State) : State := s.waitList.foldl (fun t l => wakeLane l t) s

/-- A frame enters FREE by RELEASE, AUTO_RELEASE or DISCARD: record cleared, one pulse owed, one wake pass (R58, R156). -/
def freeFrame (f : FrameNo) (s : State) : State :=
  wakePass { modFrame f (fun _ => Frame.free) s with owed := s.owed + 1 }

/-! ## Voids -/

/-- The held-back answer of a written file is given: OKAY (R77). -/
def giveLastAnswer (l : LaneNo) (s : State) : State :=
  match (s.lane l).lastWrite with
  | some slot => answerRecord .write slot .okay [] s
  | none => s

/-- An entry goes from PLACED to VOIDING (R77, R98; R100: only from PLACED). -/
def Entry.beginVoid (en : Entry) : Entry := if en.state == .placed then { en with state := .voiding } else en

/-- The entry of a lane's file goes VOIDING (R77). -/
def voidEntry (l : LaneNo) (s : State) : State :=
  match (s.lane l).file with
  | some (f, e) => modEntry f e Entry.beginVoid s
  | none => s

/-- The lane enters VOIDING with the cause recorded, its timer stopped; file, extents and outstanding writes are kept
(R77). -/
def Lane.beginVoid (cause : VoidCause) (ln : Lane) : Lane :=
  { ln with state := .voiding, held := none, timer := none, muteMark := false, voidCause := some cause
            lastWrite := none }

/-- A void of the lane's current file begins (R77). -/
def beginVoid (l : LaneNo) (cause : VoidCause) (s : State) : State :=
  modLane l (Lane.beginVoid cause) (voidEntry l (giveLastAnswer l s))

/-- Both conditions of R78 hold: no write outstanding, at most one job of the lane. -/
def voidMayEnd (s : State) (l : LaneNo) : Bool :=
  (s.lane l).state == .voiding && (s.lane l).outstanding == 0 && decide (s.laneJobs l ≤ 1)

/-- The lane drops its voided file (R34). -/
def Lane.dropFile (ln : Lane) : Lane :=
  { ln with file := none, extents := [], outstanding := 0, timer := none, firstWrite := false, voidCause := none
            lastWrite := none }

/-- The lane goes on after a void: its held announce to placement, or MUTED, or IDLE (R34). -/
def afterVoid (l : LaneNo) (s : State) : State :=
  match (s.lane l).held with
  | some h => requestPlacement l h.ann h.slot (modLane l Lane.dropFile s)
  | none =>
    modLane l (fun ln => { ln.dropFile with state := if ln.muteMark then .muted else .idle, muteMark := false }) s

/-- The VOID_FILL job of a file (R79 step 2, R108). -/
def voidFillJob (l : LaneNo) (f : FrameNo) (en : Entry) : Job :=
  { kind := .voidFill, frame := f, lane := some l, start := en.off + 64, stop := en.off + recordSize en.len
    source := .zeros }

/-- The entry at the end of a void (R79 step 3, R98; R100: only from VOIDING). -/
def Entry.voided (received : Nat) (now : Tick) (en : Entry) : Entry :=
  if en.state == .voiding then { en with state := .void, received := received, endTick := some now } else en

/-- The file's share is withdrawn from the pack sums, with s = (off + 64) / 4 (R79 step 1, R90). -/
def withdrawShare (f : FrameNo) (en : Entry) (s : State) : State :=
  modFrame f (fun fr => { fr with sums := fr.sums.withdraw en.sums ((en.off + 64) / 4) }) s

/-- The lane's record of a void's end: result by the cause, counter, LANE_ERR (R79 step 4). -/
def recordVoid (l : LaneNo) (f : FrameNo) (e : Nat) (en : Entry) (s : State) : State :=
  raiseLaneErr (modLane l (fun ln =>
    { ln.pushResult (fileResult (ln.voidCause.getD .timeout).result false .zero e en (s.frame f))
      with voided := ln.voided + 1 }) s)

/-- The end of a void: the six steps of R79. -/
def endVoid (l : LaneNo) (s : State) : State :=
  match s.currentFile l with
  | some (f, e, en) =>
    afterVoid l <| examine f <| recordVoid l f e en <|
      modEntry f e (Entry.voided (claimedBytes (s.lane l).extents) s.tick) <|
        enqueueJob (voidFillJob l f en) <| withdrawShare f en s
  | none => s

/-- A void goes on to its end as soon as both conditions of R78 hold. -/
def tryVoidEnd (l : LaneNo) (s : State) : State := if voidMayEnd s l then endVoid l s else s

/-! ## Held announces -/

/-- The lane after its held announce is refused: from WAITING to MUTED; in VOIDING the mute mark is set (R31, R32). -/
def Lane.dropHeld (ln : Lane) : Lane :=
  if ln.state == .waiting then { ln with held := none, state := .muted, muteMark := false }
  else { ln with held := none, muteMark := true }

/-- A lane's held announce is refused with a code: the write REFUSED, the result, the counter, LANE_ERR, off the wait
list (R31, R32). -/
def refuseHeld (l : LaneNo) (code : ResultCode) (s : State) : State :=
  match (s.lane l).held with
  | some h =>
    leaveWaitList l
      (modLane l Lane.dropHeld (recordRefusal l (h.ann.refusal code) (answerRecord .write h.slot .refused [] s)))
  | none => s

end Sys2Proof.Machine
end

