-- ==== Sys2Proof/Machine/Draining.lean ====
section
/-! DEFINITION. The drain monitor (chapter 9): drain passes, claims, evaluation, the drain timeout, and the frames' ways out
of DRAINED and HELD. -/

namespace Sys2Proof.Machine

open Sys2Proof.Config

/-- The member and counted marks of a read of frame `f` cleared (R141). -/
def OpenReq.unmark (f : FrameNo) (r : OpenReq) : OpenReq :=
  match r.origin with
  | .drainRead i =>
    if i.frame == f then { r with origin := .drainRead { i with member := false, counted := false } } else r
  | _ => r

/-- The marks of every read of the frame still outstanding are cleared (R147, R148, R150). -/
def clearMarks (f : FrameNo) (s : State) : State := setRecords .read (s.port.reads.map (OpenReq.unmark f)) s

/-- Change a frame's drain record. -/
def modDrain (f : FrameNo) (g : Drain → Drain) (s : State) : State :=
  modFrame f (fun fr => { fr with drain := fr.drain.map g }) s

/-- The image_length of a frame; 0 when absent (R61). -/
def Frame.length (fr : Frame) : Nat := fr.imageLength.getD 0

/-- The drain state of a frame reset, its timer started at now (R139, R142, R147). -/
def beginPass (f : FrameNo) (s : State) : State :=
  modFrame f (fun fr => { fr with drain := some { Drain.reset with timer := some (startTimer s) } }) s

/-- A read at frame offset 0 of a SEALED frame starts a pass (R142). -/
def startPass (f : FrameNo) (s : State) : State :=
  beginPass f (leaveSealQ f (modFrame f (fun fr => { fr with state := .draining }) s))

/-- A read at frame offset 0 of a DRAINING frame restarts the pass (R147). -/
def restartPass (f : FrameNo) (s : State) : State := beginPass f (clearMarks f s)

/-- The four cases of a DRAINING read from `a` to `b` (R143). -/
inductive ClaimCase where
  | claim (lo hi : Nat)
  | pastTheEnd
  | reRead
  | gap
  deriving DecidableEq, Repr

/-- The case of a DRAINING read, tested in the order of R143, with the drain cursor `c` and image_length `il`. -/
def claimCase (a b c il : Nat) : ClaimCase :=
  if a ≤ c ∧ c < b ∧ c < il then .claim c (min b il)
  else if c = il then .pastTheEnd
  else if b ≤ c then .reRead
  else .gap

/-- The drain record after a read of the pass is taken: the timer restarts, and the case acts (R143). -/
def Drain.take (t : Timer) (case : ClaimCase) (d : Drain) : Drain :=
  match case with
  | .claim _ hi => { d with cursor := hi, outstanding := d.outstanding + 1, timer := some t }
  | .pastTheEnd => { d with timer := some t }
  | .reRead => { d with timer := some t }
  | .gap => { d with broken := true, timer := some t }

/-- What the drain monitor records with a read of the current pass (R141, R143). -/
def memberInfo (f : FrameNo) (a : Nat) : ClaimCase → DrainReadInfo
  | .claim lo hi => { frame := f, off := a, member := true, counted := true, lo := lo, hi := hi }
  | _ => { frame := f, off := a, member := true, counted := false, lo := 0, hi := 0 }

/-- A frame-region read is forwarded at its own address (R10, R140). -/
def forwardDrainRead (r : ReadReq) (i : DrainReadInfo) (s : State) : State :=
  takeForwarded .read r.tag (.frame i.frame) (.drainRead i) r.beats { addr := r.addr, body := .read r.beats } s

/-- The case of a read at frame offset `off` of a DRAINING frame. -/
def State.claimOf (s : State) (f : FrameNo) (off n : Nat) : ClaimCase :=
  claimCase off (off + n) (((s.frame f).drain.map (·.cursor)).getD 0) (s.frame f).length

/-- A read taken for a DRAINING frame (R143). -/
def drainRead (r : ReadReq) (f : FrameNo) (off : Nat) (s : State) : State :=
  forwardDrainRead r (memberInfo f off (s.claimOf f off (8 * r.beats)))
    (modDrain f (Drain.take (startTimer s) (s.claimOf f off (8 * r.beats))) s)

/-- A forwarded read that is not counted and is no member of a pass (R140). -/
def plainInfo (f : FrameNo) (off : Nat) : DrainReadInfo :=
  { frame := f, off := off, member := false, counted := false, lo := 0, hi := 0 }

/-- A read of the frame region, by the state of the frame and the offset (R140). -/
def frameRead (r : ReadReq) (f : FrameNo) (off : Nat) (s : State) : State :=
  match (s.frame f).state with
  | .free | .opened | .sealing => giveAnswer .read r.tag .refused (zeroBeats r.beats) s
  | .sealed => if off = 0 then drainRead r f off (startPass f s) else forwardDrainRead r (plainInfo f off) s
  | .draining => drainRead r f off (if off = 0 then restartPass f s else s)
  | .drained | .held => forwardDrainRead r (plainInfo f off) s

/-! ## Evaluation -/

/-- The test for evaluation (R148). -/
def passIsOver (s : State) (f : FrameNo) : Bool :=
  (s.frame f).state == .draining
    && ((s.frame f).drain.any fun d => d.cursor == (s.frame f).length && d.outstanding == 0)

/-- The outcome is DRAINED: no broken flag, no image fault, sums equal (R148, R93). -/
def Frame.verifies (fr : Frame) : Bool :=
  fr.drain.any fun d => !d.broken && !fr.imageFault && d.sums == fr.sums

/-- A frame enters a state after its pass, its drain timer stopped (R148). -/
def endPass (f : FrameNo) (st : FrameState) (s : State) : State :=
  modFrame f (fun fr => { fr with state := st, drain := fr.drain.map fun d => { d with timer := none } })
    (clearMarks f s)

/-- AUTO_RELEASE is on (R153, R186). -/
def autoRelease (s : State) : Bool := s.items.autoRelease != 0

/-- The evaluation of a pass (R148, R153). -/
def evaluate (f : FrameNo) (s : State) : State :=
  if (s.frame f).verifies then
    let t := modRun (fun r => { r with drainedN := r.drainedN + 1 }) (endPass f .drained s)
    if autoRelease s then freeFrame f t else t
  else countHeld (endPass f .held s)

/-- The pass is evaluated when it is over (R148). -/
def tryEvaluate (f : FrameNo) (s : State) : State := if passIsOver s f then evaluate f s else s

/-- The returned bytes that a counted read adds: its claimed range below image_length − 64 (R145, R86). -/
def countedBytes (i : DrainReadInfo) (il : Nat) (data : List Byte) : List (Option Byte) :=
  maskBytes (fun q => decide (i.lo ≤ q) && decide (q < i.hi) && decide (q + 64 < il)) i.off (data.map some)

/-- An OKAY answer to a counted read (R145). -/
def countOkay (i : DrainReadInfo) (data : List Byte) (s : State) : State :=
  tryEvaluate i.frame (modDrain i.frame (fun d =>
    { d with sums := d.sums.addBytes i.off (countedBytes i (s.frame i.frame).length data)
             outstanding := d.outstanding - 1 }) s)

/-- A FAULT answer to a member of the pass (R146). -/
def memberFault (i : DrainReadInfo) (s : State) : State :=
  let t := modDrain i.frame (fun d =>
    { d with broken := true, outstanding := if i.counted then d.outstanding - 1 else d.outstanding }) s
  if i.counted then tryEvaluate i.frame t else t

/-! ## Back to SEALED -/

/-- A frame goes back to SEALED with its drain state reset, at the tail of the seal queue (R150, R155). -/
def backToSealed (f : FrameNo) (s : State) : State :=
  appendSealQ f (modFrame f (fun fr => { fr with state := .sealed, drain := some Drain.reset }) s)

end Sys2Proof.Machine
end

