-- ==== Sys2Proof/Machine/Formats.lean ====
section
/-! DEFINITION. The byte layouts of the records the part composes: the lane status record (R197), the pack head, file head,
directory entry and trailer (R198 to R201), with the codes they carry (R195). -/

namespace Sys2Proof.Machine

open Sys2Proof.Config

/-- Lane state codes (R187, R195). -/
def LaneState.code : LaneState → Nat
  | .idle => 0
  | .waiting => 1
  | .receiving => 2
  | .voiding => 3
  | .muted => 4

/-- Wait reason codes; 0 when no announce is held (R187). -/
def WaitReason.code : WaitReason → Nat
  | .noFrame => 1
  | .jobLimit => 2
  | .voiding => 3

/-- Entry state codes; 0 is EMPTY (R105). -/
def EntryState.code : EntryState → Nat
  | .placed => 1
  | .voiding => 2
  | .complete => 3
  | .void => 4

/-- Frame state codes (R187). -/
def FrameState.code : FrameState → Nat
  | .free => 0
  | .opened => 1
  | .sealing => 2
  | .sealed => 3
  | .draining => 4
  | .drained => 5
  | .held => 6

/-- Seal cause codes; 0 when there is none (R187). -/
def SealCause.code : SealCause → Nat
  | .threshold => 1
  | .entryLimit => 2
  | .misfit => 3
  | .age => 4
  | .sealAfter => 5
  | .flush => 6
  | .stop => 7
  | .halt => 8

/-- Result codes; 0 is NONE (R195). -/
def ResultCode.code : ResultCode → Nat
  | .complete => 1
  | .completeMismatch => 2
  | .voidTimeout => 3
  | .voidSuperseded => 4
  | .voidMemfault => 5
  | .voidHalt => 6
  | .refusedMalformed => 7
  | .refusedClass => 8
  | .refusedOversize => 9
  | .refusedHold => 10
  | .refusedStopping => 11

/-- Result flags: PLACED 1, SUM_GIVEN 2, SEAL_AFTER 4, MISMATCH 8 (R197). -/
def Result.flags (r : Result) : Nat :=
  r.placed.toNat + 2 * r.sumGiven.toNat + 4 * r.sealAfter.toNat + 8 * r.mismatch.toNat

/-- Entry flags: SUM_GIVEN 1, SEAL_AFTER 2, MISMATCH 4 (R105, R200). -/
def Entry.flags (e : Entry) : Nat := e.sumGiven.toNat + 2 * e.sealAfter.toNat + 4 * e.mismatch.toNat

/-- The result part of the status record, offsets 24 to 63 (R197); an empty queue shows NONE and zeros (R37). -/
def resultPart : List Result → List Byte
  | [] => zeroBytes 40
  | r :: _ =>
    leBytes 1 r.code.code ++ leBytes 1 r.flags ++ leBytes 2 r.entry ++ leBytes 6 r.serial.toNat ++ zeroBytes 2
      ++ leBytes 4 r.off ++ leBytes 4 r.sumA ++ leBytes 4 r.sumB ++ leBytes 8 r.wtag.toNat ++ leBytes 8 r.len.toNat

/-- The record offset the status record shows: of the current file, else 0 (R37). -/
def shownOffset (s : State) (l : LaneNo) : Nat :=
  match s.currentFile l with
  | some (_, _, en) => en.off
  | none => 0

/-- The declared length the status record shows: of the current file in RECEIVING and VOIDING, of the held announce in
WAITING, else 0 (R37). -/
def shownLength (s : State) (l : LaneNo) : Nat :=
  match s.currentFile l with
  | some (_, _, en) => en.len
  | none => ((s.lane l).held.map (·.ann.len)).getD 0

/-- The lane part of the status record, offsets 0 to 23 (R37, R197). -/
def lanePart (s : State) (l : LaneNo) : List Byte :=
  let ln := s.lane l
  leBytes 1 ln.state.code ++ leBytes 1 ((ln.held.map (·.reason.code)).getD 0) ++ leBytes 1 ln.extents.length
    ++ leBytes 1 ln.results.length ++ leBytes 1 ln.dropped.toNat ++ zeroBytes 3
    ++ leBytes 4 (shownOffset s l) ++ leBytes 4 (shownLength s l)
    ++ leBytes 4 ((ln.extents.map fun e => e.stop - e.start).sum) ++ zeroBytes 4

/-- The lane status record, 64 bytes (R37, R197). -/
def statusRecord (s : State) (l : LaneNo) : List Byte := lanePart s l ++ resultPart (s.lane l).results

/-- The pack head, 64 bytes, from the source of the PACK_HEAD job (R116, R198). -/
def packHeadRecord (f : FrameNo) (serial : Serial) (cls : ClassNo) (sizeCode : Word) (openTick : Tick) : List Byte :=
  leBytes 4 packHeadMarker.toNat ++ leBytes 1 packHeadVersion.toNat ++ leBytes 1 f.val ++ leBytes 1 sizeCode.toNat
    ++ leBytes 1 cls.val ++ leBytes 6 serial.toNat ++ zeroBytes 2 ++ leBytes 4 openTick.toNat ++ zeroBytes 44

/-- The file head, 64 bytes, from the fixed fields of entry `e` and the frame's pack serial (R102, R199). -/
def fileHeadRecord (idx : Nat) (e : Entry) (serial : Serial) : List Byte :=
  leBytes 2 idx
    ++ leBytes 1 (e.lane.val + 16 * e.cls.val + 64 * e.sumGiven.toNat + 128 * e.sealAfter.toNat)
    ++ leBytes 3 (e.off / 512) ++ leBytes 2 (serial.toNat % 65536) ++ leBytes 4 e.len ++ leBytes 4 e.arrival.toNat
    ++ leBytes 4 ((e.expected.map (·.1.toNat)).getD 0) ++ leBytes 4 ((e.expected.map (·.2.toNat)).getD 0)
    ++ leBytes 8 e.wtag.toNat ++ leBytes 32 e.digest.toNat

/-- The sums a directory entry carries: zero for a VOID entry (R103). -/
def Entry.listedSums (e : Entry) : TwoSum := if e.state == .void then .zero else e.sums

/-- A directory entry, 64 bytes (R103, R200). -/
def directoryRecord (e : Entry) : List Byte :=
  leBytes 1 e.state.code ++ leBytes 1 e.flags ++ leBytes 1 e.cls.val ++ leBytes 1 e.lane.val ++ leBytes 4 e.off
    ++ leBytes 4 e.len ++ leBytes 4 e.received ++ leBytes 4 e.listedSums.a ++ leBytes 4 e.listedSums.b
    ++ leBytes 4 e.arrival.toNat ++ leBytes 4 ((e.endTick.map (·.toNat)).getD 0) ++ leBytes 8 e.wtag.toNat
    ++ leBytes 16 e.digest.toNat ++ zeroBytes 8

/-- The trailer, 64 bytes (R118, R201). -/
def trailerRecord (serial : Serial) (n cursor imageLength : Nat) (sums : TwoSum) : List Byte :=
  leBytes 4 trailerMarker.toNat ++ leBytes 6 serial.toNat ++ leBytes 2 n ++ leBytes 4 cursor ++ leBytes 4 imageLength
    ++ leBytes 4 sums.a ++ leBytes 4 sums.b ++ zeroBytes 36

end Sys2Proof.Machine
end

