-- ==== Sys2Proof/Machine/Engine.lean ====
section
/-! DEFINITION. The fill engine (chapter 7): cutting the current job into bursts, composing their bytes, the answers to
bursts, and the completion of a job with its reports; the tests that end a stop and a core reset (R177, R180). -/

namespace Sys2Proof.Machine

open Sys2Proof.Config

/-! ## The ready burst -/

/-- The current job and its progress (R109, R113). -/
def State.currentJob (s : State) : Option (Job × Progress) :=
  match s.fill.queue, s.fill.progress with
  | j :: _, some p => some (j, p)
  | _, _ => none

/-- Where the directory phase of a DIRECTORY job ends and its trailer starts (R112, R118). -/
def Job.trailerStart (j : Job) : Nat := j.stop - 64

/-- The end of the phase that offset `p` lies in: a burst holds no bytes of both phases (R112). -/
def Job.phaseEnd (j : Job) (p : Nat) : Nat :=
  if j.kind = .directory ∧ p < j.trailerStart then j.trailerStart else j.stop

/-- The end of the burst that starts at frame offset `p`: the end of its aligned 128-byte block or of its phase (R112). -/
def Job.burstEnd (j : Job) (p : Nat) : Nat := min ((p / 128 + 1) * 128) (j.phaseEnd p)

/-- The trailer burst is held back until every directory-phase burst is answered (R113, R118). -/
def Job.heldBack (j : Job) (p : Progress) : Bool :=
  j.kind == .directory && decide (j.trailerStart ≤ p.next) && p.answered != p.issued

/-- The current job has a burst ready (R12, R113). -/
def fillReady (s : State) : Bool :=
  match s.currentJob with
  | some (j, p) => decide (p.next < j.stop) && !j.heldBack p
  | none => false

/-- The byte of a record, 0 past its end. -/
def byteAt (bytes : List Byte) (i : Nat) : Byte := (bytes[i]?).getD 0

/-- The byte that a DIRECTORY job writes at frame offset `q`: entries and zero pad, then the trailer (R118). -/
def directoryByte (s : State) (f : FrameNo) (cursor n il : Nat) (serial : Serial) (q : Nat) : Byte :=
  if il - 64 ≤ q then byteAt (trailerRecord serial n cursor il (s.frame f).sums) (q - (il - 64))
  else if (q - cursor) / 64 < n then
    match s.entry? f ((q - cursor) / 64) with
    | some en => byteAt (directoryRecord en) ((q - cursor) % 64)
    | none => 0
  else 0

/-- The byte that a job writes at frame offset `q` (R116 to R118). -/
def jobByte (s : State) (j : Job) (q : Nat) : Byte :=
  match j.source with
  | .packHead serial c code t => byteAt (packHeadRecord j.frame serial c code t) (q - j.start)
  | .fileHead e =>
    match s.entry? j.frame e with
    | some en => byteAt (fileHeadRecord e en (s.frame j.frame).serial) (q - j.start)
    | none => 0
  | .zeros => 0
  | .directory cursor n il serial => directoryByte s j.frame cursor n il serial q

/-- The bytes of the burst from `p` to `q`, from the start of the beat of its first byte to the end of the beat of its last,
strobes clear outside the range (R112). -/
def burstBytes (s : State) (j : Job) (p q : Nat) : List (Option Byte) :=
  (List.range ((q + 7) / 8 * 8 - p / 8 * 8)).map fun i =>
    if p ≤ p / 8 * 8 + i ∧ p / 8 * 8 + i < q then some (jobByte s j (p / 8 * 8 + i)) else none

/-- The buffer write of the burst that starts at frame offset `p` (R112, R15). -/
def burstReq (s : State) (j : Job) (p : Nat) : BufReq :=
  { addr := frameAddr s j.frame (p / 8 * 8), body := .write (burstBytes s j p (j.burstEnd p)) }

/-- The arbiter grants the fill side: the burst is issued and the next becomes ready (R113). -/
def grantFill (s : State) : State :=
  match s.currentJob with
  | some (j, p) =>
    let t := issue (.burst j.kind j.frame (p.next / 8 * 8)) (burstReq s j p.next) s
    modPort (fun q => { q with lastGrant := .fill })
      { t with fill := { t.fill with progress := some { p with next := j.burstEnd p.next, issued := p.issued + 1 } } }
  | none => s

/-- The arbiter grants the pass-through side: the head of the queue is issued (R11, R12). -/
def grantPass (s : State) : State :=
  match s.port.passQ with
  | e :: rest =>
    modPort (fun p => { p with passQ := rest, lastGrant := .passThrough })
      (issue (.fabric e.stream e.slot) e.req s)
  | [] => s

/-! ## The ends of a stop and of a core reset -/

/-- The stop conditions (R177). -/
def stopIsOver (s : State) : Bool :=
  s.run.global == .stopping
    && laneNos.all (fun l => (s.lane l).state != .waiting && (s.lane l).state != .receiving && (s.lane l).state != .voiding)
    && frameNos.all (fun f => (s.frame f).state != .opened && (s.frame f).state != .sealing)
    && s.fill.queue.isEmpty

/-- A running action finishes with DONE (R177, R180). -/
def finishRunning (g : GlobalState) (s : State) : State :=
  modRun (fun r => { r with global := g, running := none
                            last := match r.running with
                              | some a => some (.done, a)
                              | none => r.last }) s

/-- STOPPING becomes STOPPED in the step in which the conditions hold (R177). -/
def tryStop (s : State) : State := if stopIsOver s then finishRunning .stopped s else s

/-- The core is clear: every request taken before the reset answered, every fill burst issued before it discarded
(R180). -/
def coreIsClear (s : State) : Bool :=
  s.run.running == some .resetCore && s.port.writes.all (fun r => !r.preReset)
    && s.port.reads.all (fun r => !r.preReset) && s.port.outstanding.all (fun o => o.origin != .dropped)

/-- The core reset finishes when the core is clear (R180). -/
def tryClear (s : State) : State := if coreIsClear s then finishRunning s.run.global s else s

/-! ## Answers to bursts, and the completion of a job -/

/-- Every burst of the current job is offered and answered (R115). -/
def jobIsDone (s : State) : Bool :=
  match s.currentJob with
  | some (j, p) => decide (j.stop ≤ p.next) && p.answered == p.issued
  | none => false

/-- The queue without its head; the next job becomes current (R115 steps 1, 2, 4). -/
def popJob (s : State) : State :=
  { s with fill := { queue := s.fill.queue.tail, progress := s.fill.queue.tail.head?.map Job.begin } }

/-- A held JOB_LIMIT announce is handed to placement again (R30). -/
def retryJobLimit (l : LaneNo) (s : State) : State :=
  match (s.lane l).held with
  | some h =>
    if (s.lane l).state == .waiting && h.reason == .jobLimit then requestPlacement l h.ann h.slot s else s
  | none => s

/-- The lane acts on the completion of one of its jobs: retry, completion, or void end, by its state (R115, R119). -/
def laneReport (l : LaneNo) (s : State) : State :=
  match (s.lane l).state with
  | .waiting => retryJobLimit l s
  | .receiving => tryComplete l s
  | .voiding => tryVoidEnd l s
  | .idle => s
  | .muted => s

/-- The seal unit acts on the completion of a job: the end of sealing for a DIRECTORY job, else an examination (R115,
R127, R128). -/
def sealReport (j : Job) (s : State) : State :=
  if j.kind == .directory then sealComplete j.frame s else examine j.frame s

/-- The reports of a completed job (R115 step 3; log 22). -/
def jobReports (j : Job) (s : State) : State :=
  match j.lane with
  | some l => laneReport l (sealReport j s)
  | none => sealReport j s

/-- A job completes, with its reports and the stop's test (R115, R177). -/
def completeJob (s : State) : State :=
  match s.fill.queue with
  | j :: _ => tryStop (jobReports j (popJob s))
  | [] => s

/-- The current job completes when it is done (R115). -/
def tryCompleteJob (s : State) : State := if jobIsDone s then completeJob s else s

/-- A burst counts as answered (R114). -/
def countAnswered (s : State) : State :=
  { s with fill := { s.fill with progress := s.fill.progress.map fun p => { p with answered := p.answered + 1 } } }

/-- The burst's bytes that are added: none at frame offsets image_length − 64 to image_length (R88). -/
def summedBytes (fr : Frame) (off : Nat) (bytes : List (Option Byte)) : List (Option Byte) :=
  match fr.imageLength with
  | some il => maskBytes (fun q => decide (q + 64 < il) || decide (il ≤ q)) off bytes
  | none => bytes

/-- The pack sum of a frame with a burst's bytes added (R88, R114). -/
def addBurst (f : FrameNo) (off : Nat) (bytes : List (Option Byte)) (s : State) : State :=
  modFrame f (fun fr => { fr with sums := fr.sums.addBytes off (summedBytes fr off bytes) }) s

/-- The image-fault flag of a frame is set and IMAGE_FAULT raised (R114). -/
def setImageFault (f : FrameNo) (s : State) : State :=
  raiseImageFault (modFrame f (fun fr => { fr with imageFault := true }) s)

end Sys2Proof.Machine
end

