-- ==== Sys2Proof/Machine/Buffer.lean ====
section
/-! DEFINITION. The buffer port: ARBITER_GRANT and the buffer answers, each taken by the origin of its request (R9, R12 to
R17). -/

namespace Sys2Proof.Machine

open Sys2Proof.Config

/-- The pass-through side has a burst ready (R11). -/
def passReady (s : State) : Bool := !s.port.passQ.isEmpty

/-- The arbiter's choice (R12). -/
def grant (s : State) : State :=
  match passReady s, fillReady s with
  | true, false => grantPass s
  | false, true => grantFill s
  | true, true => if s.port.lastGrant == .passThrough then grantFill s else grantPass s
  | false, false => s

/-- ARBITER_GRANT (R12): the buffer port's request path can accept a request (log 24). -/
def execArbiterGrant (s : State) : Host.Outcome State Fault Refusal := live s grant

/-- A buffer answer's data have the shape of R1 and R4. -/
def withData (data : List Byte) (o : Host.Outcome State Fault Refusal) : Host.Outcome State Fault Refusal :=
  if dataWf data then o else .refused .illFormed

/-- PLAIN_BUFFER_ANSWER (R13, R14): the buffer's code and data go to the fabric; an answer to a request taken before a core
reset may make the core clear (R180). -/
def execPlainBufferAnswer (btag : Nat) (a : BufAnswer) (s : State) : Host.Outcome State Fault Refusal :=
  withData a.data <| answeredRecord btag (some a.data) s fun st r _ s =>
    if r.origin == .plain then tryClear (answerRecord st r.slot (bufResp a.code) a.data (dropOutstanding btag s)) else s

/-! ## Body writes -/

/-- The written bytes of a body write are added to the file sum at their body offsets (R84, R87; R100: only while the entry
is PLACED or VOIDING). -/
def Entry.addBody (k : Nat) (bytes : List (Option Byte)) (en : Entry) : Entry :=
  if en.pending then { en with sums := en.sums.addBytes k bytes } else en

/-- The written bytes are added to the file sum and to the pack sum (R85, R87). -/
def addBody (i : BodyWriteInfo) (bytes : List (Option Byte)) (s : State) : State :=
  modFrame i.frame (fun fr => { fr with sums := fr.sums.addBytes (i.off + 64 + i.k) bytes })
    (modEntry i.frame i.entry (Entry.addBody i.k bytes) s)

/-- The lane takes an OKAY answer: outstanding writes fall, and a write that reached past L is counted as clamped (R64,
R70). -/
def laneWriteOkay (i : BodyWriteInfo) (s : State) : State :=
  modLane i.lane (fun ln => { ln with outstanding := ln.outstanding - 1
                                      clamped := if i.pastEnd then ln.clamped + 1 else ln.clamped }) s

/-- The file is written (R75). -/
def fileIsWritten (s : State) (l : LaneNo) : Bool :=
  match s.currentFile l with
  | some (_, _, en) => isWritten s l en
  | none => false

/-- The answer of a body write answered OKAY: held back when the file becomes written, else given; a waiting void goes on
(R70, R75, R78). -/
def settleBodyOkay (l : LaneNo) (slot : Nat) (s : State) : State :=
  if fileIsWritten s l then tryComplete l (holdLastAnswer l slot s)
  else tryVoidEnd l (answerRecord .write slot .okay [] s)

/-- BODY_WRITE_OKAY (R70, R87). -/
def execBodyWriteOkay (btag : Nat) (s : State) : Host.Outcome State Fault Refusal :=
  answeredRecord btag none s fun _ r o s =>
    match r.origin with
    | .bodyWrite i =>
      if r.preReset then s
      else tryStop (settleBodyOkay i.lane r.slot
        (laneWriteOkay i (addBody i o.req.writeBytes (dropOutstanding btag s))))
    | _ => s

/-- A FAULT voids a RECEIVING file with cause MEMFAULT; a void already running goes on (R71). -/
def settleBodyFault (l : LaneNo) (s : State) : State :=
  if (s.lane l).state == .receiving then tryVoidEnd l (beginVoid l .memfault s) else tryVoidEnd l s

/-- BODY_WRITE_FAULT (R71). -/
def execBodyWriteFault (btag : Nat) (s : State) : Host.Outcome State Fault Refusal :=
  answeredRecord btag none s fun _ r _ s =>
    match r.origin with
    | .bodyWrite i =>
      if r.preReset then s
      else tryStop (settleBodyFault i.lane
        (modLane i.lane (fun ln => { ln with outstanding := ln.outstanding - 1 })
          (answerRecord .write r.slot .fault [] (dropOutstanding btag s))))
    | _ => s

/-! ## Reads -/

/-- BODY_READ_ANSWER (R72): bytes at L or above zero, dropped beats zero; FAULT with zero beats. -/
def execBodyReadAnswer (btag : Nat) (a : BufAnswer) (s : State) : Host.Outcome State Fault Refusal :=
  withData a.data <| answeredRecord btag (some a.data) s fun _ r _ s =>
    match r.origin with
    | .bodyRead i =>
      if r.preReset then s
      else
        match a.code with
        | .okay => answerRecord .read r.slot .okay (clampData i.len i.k (8 * r.beats) a.data) (dropOutstanding btag s)
        | .fault => answerRecord .read r.slot .fault (zeroBeats r.beats) (dropOutstanding btag s)
    | _ => s

/-- DRAIN_READ_OKAY (R141, R145). -/
def execDrainReadOkay (btag : Nat) (data : List Byte) (s : State) : Host.Outcome State Fault Refusal :=
  withData data <| answeredRecord btag (some data) s fun _ r _ s =>
    match r.origin with
    | .drainRead i =>
      if r.preReset then s
      else
        let t := answerRecord .read r.slot .okay data (dropOutstanding btag s)
        if i.counted && (s.frame i.frame).state == .draining then countOkay i data t else t
    | _ => s

/-- DRAIN_READ_FAULT (R141, R146). -/
def execDrainReadFault (btag : Nat) (s : State) : Host.Outcome State Fault Refusal :=
  answeredRecord btag none s fun _ r _ s =>
    match r.origin with
    | .drainRead i =>
      if r.preReset then s
      else
        let t := answerRecord .read r.slot .fault (zeroBeats r.beats) (dropOutstanding btag s)
        if i.member && (s.frame i.frame).state == .draining then memberFault i t else t
    | _ => s

/-! ## Fill bursts -/

/-- FILL_BURST_OKAY (R114, R88). -/
def execFillBurstOkay (btag : Nat) (s : State) : Host.Outcome State Fault Refusal :=
  answered btag s fun o s =>
    match o.origin with
    | .burst _ f off =>
      .next (tryCompleteJob (countAnswered (addBurst f off o.req.writeBytes (dropOutstanding btag s))))
    | _ => .next s

/-- FILL_BURST_FAULT (R114). -/
def execFillBurstFault (btag : Nat) (s : State) : Host.Outcome State Fault Refusal :=
  answered btag s fun o s =>
    match o.origin with
    | .burst _ f _ => .next (tryCompleteJob (countAnswered (setImageFault f (dropOutstanding btag s))))
    | _ => .next s

/-! ## Answers after a reset -/

/-- The bytes that a read's answer lacks of the request's length, drawn as free values (R4, R16; log 7). -/
def freeBytes (from_ n : Nat) : List Byte := (List.range n).map fun i => Sys2Proof.Config.droppedBeatByte (from_ + i)

/-- The bytes that `data` lacks of a record's length; a write is answered without data. -/
def missingBytes (st : Stream) (r : OpenReq) (data : List Byte) : Nat :=
  match st with
  | .write => 0
  | .read => 8 * r.beats - data.length

/-- A record's buffer answer goes straight to the fabric, with the buffer's code and data (R16). -/
def passAnswer (st : Stream) (r : OpenReq) (code : BufCode) (data : List Byte) (s : State) : State :=
  answerRecord st r.slot (bufResp code) (data ++ freeBytes s.free (missingBytes st r data))
    { s with free := s.free + missingBytes st r data }

/-- PASS_THROUGH_AFTER_CORE_RESET (R16, R180). -/
def execPassThroughAfterCoreReset (btag : Nat) (a : BufAnswer) (s : State) : Host.Outcome State Fault Refusal :=
  withData a.data <| answeredRecord btag (some a.data) s fun st r _ s =>
    if r.preReset then tryClear (passAnswer st r a.code a.data (dropOutstanding btag s)) else s

/-- The port takes a late answer and forgets its tag (R17). -/
def forgetLate (btag : Nat) (s : State) : State := modPort (fun p => { p with late := p.late.filter (· != btag) }) s

/-- LATE_ANSWER_DISCARD (R16, R17, R121, R122): an answer to a request issued before a hard reset, or to a fill burst
issued before a core reset. -/
def execLateAnswerDiscard (btag : Nat) (s : State) : Host.Outcome State Fault Refusal :=
  if !s.resetLow && s.port.late.contains btag then .next (forgetLate btag s)
  else
    answered btag s fun o s =>
      if o.origin == .dropped then .next (tryClear (dropOutstanding btag s)) else .next s

end Sys2Proof.Machine
end

