-- ==== Sys2Proof/Machine/Items.lean ====
section
/-! DEFINITION. The items of the management link: configuration items with their clamps (R186, R167, R104), and the values
of the readable items (R187, R189, R61, R105, R134). -/

namespace Sys2Proof.Machine

/-! ## Configuration items -/

/-- The value of a configuration item (R186). -/
def Items.get (it : Items) : ConfigItem → Word
  | .apertureBaseLo => it.apertureBaseLo
  | .apertureBaseHi => it.apertureBaseHi
  | .frameBaseLo => it.frameBaseLo
  | .frameBaseHi => it.frameBaseHi
  | .frameSizeCode => it.frameSizeCode
  | .frameCount => it.frameCount
  | .classEnable => it.classEnable
  | .packSerialBaseLo => it.packSerialBaseLo
  | .packSerialBaseHi => it.packSerialBaseHi
  | .sealThreshold => it.sealThreshold
  | .ageLimit => it.ageLimit
  | .laneTimeout => it.laneTimeout
  | .holdTimeout => it.holdTimeout
  | .drainTimeout => it.drainTimeout
  | .autoRelease => it.autoRelease
  | .attnMask => it.attnMask

/-- The items with one of them set (R186). -/
def Items.put (it : Items) (v : Word) : ConfigItem → Items
  | .apertureBaseLo => { it with apertureBaseLo := v }
  | .apertureBaseHi => { it with apertureBaseHi := v }
  | .frameBaseLo => { it with frameBaseLo := v }
  | .frameBaseHi => { it with frameBaseHi := v }
  | .frameSizeCode => { it with frameSizeCode := v }
  | .frameCount => { it with frameCount := v }
  | .classEnable => { it with classEnable := v }
  | .packSerialBaseLo => { it with packSerialBaseLo := v }
  | .packSerialBaseHi => { it with packSerialBaseHi := v }
  | .sealThreshold => { it with sealThreshold := v }
  | .ageLimit => { it with ageLimit := v }
  | .laneTimeout => { it with laneTimeout := v }
  | .holdTimeout => { it with holdTimeout := v }
  | .drainTimeout => { it with drainTimeout := v }
  | .autoRelease => { it with autoRelease := v }
  | .attnMask => { it with attnMask := v }

/-- The range of an item (R186, R167). -/
def itemRange : ConfigItem → Nat × Nat
  | .apertureBaseLo => (0, 4294967295)
  | .apertureBaseHi => (0, 65535)
  | .frameBaseLo => (0, 4294967295)
  | .frameBaseHi => (0, 65535)
  | .frameSizeCode => (24, 30)
  | .frameCount => (2, 8)
  | .classEnable => (0, 15)
  | .packSerialBaseLo => (0, 4294967295)
  | .packSerialBaseHi => (0, 65535)
  | .sealThreshold => (1, 256)
  | .ageLimit => (0, 86400000)
  | .laneTimeout => (10, 600000)
  | .holdTimeout => (10, 600000)
  | .drainTimeout => (100, 3600000)
  | .autoRelease => (0, 1)
  | .attnMask => (0, 31)

/-- A written value outside the range becomes the nearer end of it (R186, R167). -/
def clampItem (item : ConfigItem) (v : Word) : Word :=
  BitVec.ofNat 32 (min (max v.toNat (itemRange item).1) (itemRange item).2)

/-- Items 0x20 to 0x28 are the layout items (R186). -/
def isLayout : ConfigItem → Bool
  | .apertureBaseLo | .apertureBaseHi | .frameBaseLo | .frameBaseHi | .frameSizeCode | .frameCount | .classEnable
  | .packSerialBaseLo | .packSerialBaseHi => true
  | .sealThreshold | .ageLimit | .laneTimeout | .holdTimeout | .drainTimeout | .autoRelease | .attnMask => false

/-! ## Action codes -/

/-- The item codes of the actions (R188). -/
def Action.code : Action → Byte
  | .start => 0x40#8
  | .stop => 0x41#8
  | .halt => 0x42#8
  | .enterConfig => 0x43#8
  | .resetCore => 0x44#8
  | .flushClass => 0x45#8
  | .release => 0x46#8
  | .discard => 0x47#8
  | .redrain => 0x48#8

/-- The codes of the action results; 0 is "none" (R188). -/
def ActionResult.code : ActionResult → Nat
  | .done => 1
  | .layout => 2
  | .wrongState => 3
  | .nothing => 4
  | .notEmpty => 5

/-! ## Readable items -/

/-- A Nat as a data word. -/
def word (n : Nat) : Word := BitVec.ofNat 32 n

/-- The low 32 bits of a serial, then its high 16 bits (R105, R187). -/
def serialLow (x : Serial) : Word := word (x.toNat % 4294967296)
def serialHigh (x : Serial) : Word := word (x.toNat / 4294967296)

/-- ACTION_STATUS (R189). -/
def readActionStatus (s : State) (index : Nat) : Word :=
  match index with
  | 0 => word (stageCode s)
  | 1 => word ((s.run.running.map (·.code.toNat)).getD 0)
  | 2 => word ((s.run.last.map (·.1.code)).getD 0)
  | _ => word ((s.run.last.map (·.2.code.toNat)).getD 0)

/-- GLOBAL_COUNTERS: opened, sealed, drained OK, held (R187). -/
def readGlobalCounter (s : State) (index : Nat) : Word :=
  match index with
  | 0 => s.run.opened
  | 1 => s.run.sealedN
  | 2 => s.run.drainedN
  | _ => s.run.heldN

/-- FRAME_INFO word 6: image fault 1, bound class present 2, plus 4 × the class (R187). -/
def Frame.infoFlags (fr : Frame) : Nat :=
  fr.imageFault.toNat + (match fr.cls with
    | some c => 2 + 4 * c.val
    | none => 0)

/-- FRAME_INFO of a frame, by word (R187, R61): a field that is absent reads as zero. -/
def readFrameInfo (fr : Frame) (w : Nat) : Word :=
  match w with
  | 0 => serialLow fr.serial
  | 1 => serialHigh fr.serial
  | 2 => word fr.entries.length
  | 3 => word fr.cursor
  | 4 => word fr.length
  | 5 => word ((fr.sealCause.map (·.code)).getD 0)
  | 6 => word fr.infoFlags
  | 7 => word fr.sums.a
  | _ => word fr.sums.b

/-- SEAL_NEXT with index 1 to 4: the last-pop record (R134). -/
def readLastPop (p : Option LastPop) (index : Nat) : Word :=
  match p with
  | none => if index = 1 then 0xFFFFFFFF#32 else 0
  | some x =>
    match index with
    | 1 => word x.frame.val
    | 2 => serialLow x.serial
    | 3 => serialHigh x.serial
    | _ => word x.imageLength

/-- LANE_STATE of a lane, by word (R187). -/
def readLaneState (ln : Lane) (w : Nat) : Word :=
  match w with
  | 0 => word ln.state.code
  | 1 => word ((ln.held.map (·.reason.code)).getD 0)
  | 2 => word ln.extents.length
  | _ => word ln.results.length

/-- LANE_COUNTERS of a lane, by counter (R187, R39). -/
def readLaneCounter (ln : Lane) (c : Nat) : Word :=
  match c with
  | 0 => ln.completed
  | 1 => ln.voided
  | 2 => ln.refusedAnn
  | 3 => ln.clamped
  | 4 => ln.refusedWr
  | _ => word ln.dropped.toNat

/-- INDEX_SELECT read back: entry index + 65,536 × frame number (R104). -/
def Selection.word (x : Selection) : Word := BitVec.ofNat 32 (x.entry + 65536 * x.frame.val)

/-- Word `w` of an existing entry of a frame (R105). -/
def entryWord (fr : Frame) (en : Entry) (w : Nat) : Word :=
  match w with
  | 0 => word en.state.code
  | 1 => word en.lane.val
  | 2 => word en.cls.val
  | 3 => word en.flags
  | 4 => word en.off
  | 5 => word en.len
  | 6 => word en.received
  | 7 => (en.expected.map (·.1)).getD 0
  | 8 => (en.expected.map (·.2)).getD 0
  | 9 => word en.sums.a
  | 10 => word en.sums.b
  | 11 => en.arrival
  | 12 => en.endTick.getD 0
  | 13 => en.wtag.extractLsb' 0 32
  | 14 => en.wtag.extractLsb' 32 32
  | 23 => serialLow fr.serial
  | 24 => serialHigh fr.serial
  | w => en.digest.extractLsb' (32 * (w - 15)) 32

/-- INDEX_WORD of the selected place; an EMPTY place reads 0 in every word (R105). -/
def readIndexWord (s : State) (w : Nat) : Word :=
  if (s.frame s.sel.frame).state == .free then 0
  else
    match s.entry? s.sel.frame s.sel.entry with
    | some en => entryWord (s.frame s.sel.frame) en w
    | none => 0

/-- The value of a status item whose READ has no effect, at an index in its range (R187, R189, R104, R105, R134). -/
def statusValue (s : State) (item index : Nat) : Word :=
  match item with
  | 0x01 => word s.run.global.code
  | 0x02 => readActionStatus s index
  | 0x03 => s.tick
  | 0x05 => readGlobalCounter s index
  | 0x08 => word (s.frame (Fin.ofNat 8 index)).state.code
  | 0x09 => readFrameInfo (s.frame (Fin.ofNat 8 (index % 8))) (index / 8)
  | 0x0A => readLastPop s.lastPop index
  | 0x0C => readLaneState (s.lane (Fin.ofNat 16 (index % 16))) (index / 16)
  | 0x0D => readLaneCounter (s.lane (Fin.ofNat 16 (index % 16))) (index / 16)
  | 0x0E => s.sel.word
  | 0x0F => readIndexWord s index
  | _ => 0

/-- The value that a READ without effect returns (R185, R186, R187). -/
def readValue (s : State) (item index : Byte) : Word :=
  match configItemOf item with
  | some i => s.items.get i
  | none => statusValue s item.toNat index.toNat

/-! ## Answers of the link -/

/-- The link takes a frame when CS# rises and composes the pending answer in the same step; the receiver is empty and no
frame is shifted out (R182, R184). -/
def linkAnswer (resp : LinkResp) (item index : Byte) (data : Word) (s : State) : State :=
  { s with link := { receiver := [], sending := none
                     answer := { resp := resp, item := item, index := index, data := data } } }

end Sys2Proof.Machine
end

