-- ==== Sys2Proof/Machine/Timers.lean ====
section
/-! DEFINITION. The timer unit (chapter 10): TICK_ADVANCE and the deadline tests, and the four expiries as their owners take
them: AGE_EXPIRY, LANE_TIMER_EXPIRY, HOLD_TIMEOUT_EXPIRY, DRAIN_TIMEOUT_EXPIRY. A test that finds a deadline expired marks
it as reported; the owner takes a reported expiry (log 5). -/

namespace Sys2Proof.Machine

/-- A running deadline tested against a limit (R162). -/
def Timer.test (now : Tick) (limit : Nat) (t : Timer) : Timer :=
  { t with reported := t.reported || expired now t.start limit }

/-- The limit of a lane timer: four times LANE_TIMEOUT before the first forwarded write (R73, R164). -/
def laneLimit (s : State) (ln : Lane) : Nat :=
  if ln.firstWrite then s.items.laneTimeout.toNat else 4 * s.items.laneTimeout.toNat

/-- The age deadline of one frame tested: OPEN, and AGE_LIMIT not 0 (R163). -/
def testAge (f : FrameNo) (s : State) : State :=
  if (s.frame f).state == .opened && s.items.ageLimit != 0 then
    modFrame f (fun fr => { fr with ageReported := fr.ageReported || expired s.tick fr.openTick s.items.ageLimit.toNat }) s
  else s

/-- The lane timer of one lane tested (R164). -/
def testLane (l : LaneNo) (s : State) : State :=
  modLane l (fun ln => { ln with timer := ln.timer.map (Timer.test s.tick (laneLimit s ln)) }) s

/-- The hold timer of one lane tested (R165). -/
def testHold (l : LaneNo) (s : State) : State :=
  modLane l (fun ln => { ln with held := ln.held.map fun h =>
    { h with timer := h.timer.test s.tick s.items.holdTimeout.toNat } }) s

/-- The drain timer of one frame tested (R166). -/
def testDrain (f : FrameNo) (s : State) : State :=
  modDrain f (fun d => { d with timer := d.timer.map (Timer.test s.tick s.items.drainTimeout.toNat) }) s

/-- Every running deadline is tested (R162: at each advance of the tick). -/
def testAll (s : State) : State :=
  forFrames testDrain (forLanes testHold (forLanes testLane (forFrames testAge s)))

/-- TICK_ADVANCE (R161, R162). -/
def execTickAdvance (s : State) : Host.Outcome State Fault Refusal :=
  live s fun s => testAll { s with tick := s.tick + 1 }

/-- AGE_EXPIRY (R163, R55): a request to seal with cause AGE. -/
def execAgeExpiry (f : FrameNo) (s : State) : Host.Outcome State Fault Refusal :=
  live s fun s => if (s.frame f).ageReported then requestSeal f .age s else s

/-- The lane's running timer has a reported expiry (R164). -/
def laneExpiryDue (s : State) (l : LaneNo) : Bool :=
  (s.lane l).state == .receiving && ((s.lane l).timer.any fun t => t.reported)

/-- LANE_TIMER_EXPIRY (R164, R77). -/
def execLaneTimerExpiry (l : LaneNo) (s : State) : Host.Outcome State Fault Refusal :=
  live s fun s => if laneExpiryDue s l then tryStop (tryVoidEnd l (beginVoid l .timeout s)) else s

/-- The hold timer of the lane's held announce has a reported expiry (R165). -/
def holdExpiryDue (s : State) (l : LaneNo) : Bool := (s.lane l).held.any fun h => h.timer.reported

/-- HOLD_TIMEOUT_EXPIRY (R31, R165). -/
def execHoldTimeoutExpiry (l : LaneNo) (s : State) : Host.Outcome State Fault Refusal :=
  live s fun s => if holdExpiryDue s l then refuseHeld l .refusedHold s else s

/-- The frame's drain timer has a reported expiry (R150, R166). -/
def drainExpiryDue (s : State) (f : FrameNo) : Bool :=
  (s.frame f).state == .draining && ((s.frame f).drain.any fun d => d.timer.any fun t => t.reported)

/-- DRAIN_TIMEOUT_EXPIRY (R150, R166). -/
def execDrainTimeoutExpiry (f : FrameNo) (s : State) : Host.Outcome State Fault Refusal :=
  live s fun s => if drainExpiryDue s f then backToSealed f (clearMarks f s) else s

end Sys2Proof.Machine
end

