-- ==== Sys2Proof/Machine/Link.lean ====
section
/-! DEFINITION. The link frames that are no actions: LINK_FRAME_DISCARD, BAD_ITEM, CONFIG_ITEM_WRITE, TIMER_LIMIT_WRITE,
ATTN_MASK_WRITE, INDEX_SELECT, ATTN_CAUSE_READ, SEAL_NEXT_POP (chapter 12, R104, R134, R167). -/

namespace Sys2Proof.Machine

/-! ## The four wires (R182)

A link frame is one command (log 15). What CS# and SCK do to the receiver and to SDO within it stands in the three
operations here; SDO itself is the line `sdo` of Flags.lean. -/

/-- CS# falls: the outgoing frame is composed (R184). While CS# is low already this changes nothing. -/
def csFalls (s : State) : State :=
  { s with link := { s.link with sending := some (s.link.sending.getD (outgoingFrame s)) } }

/-- One SCK pulse: SDI is sampled on the rising edge, and on the falling edge SDO goes on to its next bit (`sdo` counts the
bits sampled); ignored while CS# is high (R182). -/
def sckPulse (sdi : Bool) (s : State) : State :=
  if s.link.sending.isSome then { s with link := { s.link with receiver := s.link.receiver ++ [sdi] } } else s

/-- The SCK pulses of a run of bits, the first one first. -/
def sckPulses (bits : List Bool) (s : State) : State := bits.foldl (fun t b => sckPulse b t) s

/-- CS# has risen: SDO is not driven, and the receiver is empty for the next frame (R182). -/
def frameOver (s : State) : State := { s with link := { s.link with receiver := [], sending := none } }

/-! ## Discarded frames and frames without effect -/

/-- The byte of a frame, zero where it did not arrive (R184, R204). -/
def arrived (bytes : List Byte) (i : Nat) : Byte := (bytes[i]?).getD 0

/-- A discarded frame: LINK_ERR, and the pending answer becomes BAD_CRC (R182). The item and index bytes are echoed as far as
they arrived: for a frame of two bytes that is the model's reading of R204 beside R184 (DEDUCED, log 21). -/
def discardFrame (bytes : List Byte) (s : State) : State :=
  raiseLinkErr (linkAnswer .badCrc (arrived bytes 1) (arrived bytes 2) 0 s)

/-- CS# rises on a frame that is not acted on: without an SCK edge it is ignored, else it is discarded (R182). -/
def csRises (s : State) : State :=
  if s.link.receiver.isEmpty then frameOver s else discardFrame (bytesOfBits s.link.receiver) s

/-- LINK_FRAME_DISCARD (R182, R183): CS# falls, the bits are shifted, CS# rises. A frame that passes is another row's command
(log 2). -/
def execLinkFrameDiscard (bytes : List Byte) (bits : List Bool) (s : State) : Host.Outcome State Fault Refusal :=
  live s fun s =>
    let t := sckPulses (bitsOfBytes bytes ++ bits) (csFalls s)
    if t.link.receiver.isEmpty || linkFrameBad t.link.receiver then csRises t else s

/-- The answer of a checked frame that has no effect but its answer (R185); none when the frame is another row's step. -/
def plainAnswer (s : State) (r : LinkRequest) : Option (LinkResp × Word) :=
  if r.op == 0x01#8 then
    if !readAllowed r.item r.index then some (.badItem, 0)
    else if readActs r.item r.index then none
    else some (.ok, readValue s r.item r.index)
  else if r.op == 0x02#8 then (if writeAllowed r.item then none else some (.badItem, 0))
  else if r.op == 0x03#8 then (if actAllowed r.item r.index then none else some (.badItem, 0))
  else some (.badItem, 0)

/-- BAD_ITEM (R185), and the READs that change nothing, which have no row of their own (R187; log 9). -/
def execBadItem (r : LinkRequest) (s : State) : Host.Outcome State Fault Refusal :=
  live s fun s =>
    match plainAnswer s r with
    | some (resp, data) => linkAnswer resp r.item r.index data s
    | none => s

/-! ## Configuration items -/

/-- Set an item. -/
def putItem (item : ConfigItem) (v : Word) (s : State) : State := { s with items := s.items.put v item }

/-- The write of a limit is a moment of test for every running deadline of its kind (R162, R167). -/
def testKind (item : ConfigItem) (s : State) : State :=
  match item with
  | .ageLimit => forFrames testAge s
  | .laneTimeout => forLanes testLane s
  | .holdTimeout => forLanes testHold s
  | .drainTimeout => forFrames testDrain s
  | _ => s

/-- A WRITE of a configuration item: a layout item outside CONFIG keeps its value (R186). -/
def writeItem (item : ConfigItem) (index : Byte) (data : Word) (s : State) : State :=
  if isLayout item && s.run.global != .config then
    linkAnswer .refusedState item.code index (s.items.get item) s
  else linkAnswer .ok item.code index (clampItem item data) (testKind item (putItem item (clampItem item data) s))

/-- CONFIG_ITEM_WRITE (R186). -/
def execConfigItemWrite (item : ConfigItem) (index : Byte) (data : Word) (s : State) :
    Host.Outcome State Fault Refusal :=
  live s (writeItem item index data)

/-- TIMER_LIMIT_WRITE (R167). -/
def execTimerLimitWrite (item : LimitItem) (index : Byte) (data : Word) (s : State) :
    Host.Outcome State Fault Refusal :=
  live s (writeItem item.configItem index data)

/-- ATTN_MASK_WRITE (R186, R192): the line is a view of the flags and the mask, so it follows at once. -/
def execAttnMaskWrite (index : Byte) (data : Word) (s : State) : Host.Outcome State Fault Refusal :=
  live s (writeItem .attnMask index data)

/-! ## INDEX_SELECT, ATTN_CAUSE, SEAL_NEXT -/

/-- The clamped selection of a data word (R104). -/
def selectionOf (data : Word) : Selection :=
  { frame := Fin.ofNat 8 (min (data.toNat / 65536) 7), entry := min (data.toNat % 65536) 2047 }

/-- The selection takes the clamped values (R104). One draw of the answer's free data word is counted (log 25). -/
def selectEntry (data : Word) (s : State) : State := { s with sel := selectionOf data, free := s.free + 1 }

/-- INDEX_SELECT, op WRITE (R104). The answer's data word is a free value (log 25). -/
def execIndexSelect (index : Byte) (data : Word) (s : State) : Host.Outcome State Fault Refusal :=
  live s fun s => linkAnswer .ok 0x0E#8 index (Sys2Proof.Config.indexSelectData s.free) (selectEntry data s)

/-- ATTN_CAUSE_READ (R191). -/
def execAttnCauseRead (index : Byte) (s : State) : Host.Outcome State Fault Refusal :=
  live s fun s => linkAnswer .ok 0x04#8 index (word s.attn.weight) (clearOnRead s)

/-- The record of a pop: frame, serial and image_length as the frame record holds them (R134). -/
def popOf (s : State) (f : FrameNo) : LastPop :=
  { frame := f, serial := (s.frame f).serial, imageLength := (s.frame f).length }

/-- SEAL_NEXT with index 0: pop the head of the seal queue into the last-pop record, or record EMPTY (R134). -/
def popSealQ (s : State) : State :=
  match s.sealQ with
  | f :: rest => { s with sealQ := rest, lastPop := some (popOf s f) }
  | [] => { s with lastPop := none }

/-- SEAL_NEXT_POP (R134): the answer carries the frame number popped, or 0xFFFF_FFFF for EMPTY. -/
def execSealNextPop (s : State) : Host.Outcome State Fault Refusal :=
  live s fun s => linkAnswer .ok 0x0A#8 0 (readLastPop (popSealQ s).lastPop 1) (popSealQ s)

end Sys2Proof.Machine
end

