-- ==== Sys2Proof/Machine/Control.lean ====
section
/-! DEFINITION. Run control and the actions (chapter 11, R188): START, STOP, HALT, ENTER_CONFIG, RESET_CORE, FLUSH_CLASS,
RELEASE, DISCARD, REDRAIN; and RESET_ASSERT and HARD_RESET (R17, R181). -/

namespace Sys2Proof.Machine

/-! ## Taking an action (R172, R173, R188) -/

/-- Run control takes an ACT or refuses it, by the action status (R173). -/
def admits (running : Option Action) (a : Action) : Bool :=
  match running with
  | none => true
  | some .stop => !(a == .start || a == .stop || a == .enterConfig)
  | some .halt => !(a == .start || a == .stop || a == .enterConfig || a == .halt)
  | some _ => false

/-- An action finishes: its result becomes the last result (R172). -/
def finish (a : Action) (r : ActionResult) (s : State) : State := modRun (fun c => { c with last := some (r, a) }) s

/-- The data of a taken ACT's answer: its own result, or 0 while it still runs (R188). -/
def actionData (a : Action) (s : State) : Word :=
  if s.run.running == some a then 0 else word ((s.run.last.map (·.1.code)).getD 0)

/-- The link offers an ACT to run control (R173, R188). -/
def takeAction (a : Action) (index : Byte) (f : State → State) (s : State) : State :=
  if admits s.run.running a then linkAnswer .ok a.code index (actionData a (f s)) (f s)
  else linkAnswer .refusedBusy a.code index 0 s

/-! ## START (R174) -/

/-- The layout check of START (R174). -/
def layoutFails (s : State) : Bool :=
  (apertureBase s).toNat % (16 * frameSize s) != 0 || (frameBase s).toNat % frameSize s != 0
    || inAperture s (frameBase s) || inFrameRegion s (apertureBase s)

/-- START, by the global state (R173, R174). -/
def startPart (s : State) : State :=
  match s.run.global with
  | .config =>
    if layoutFails s then finish .start .layout s
    else finish .start .done (modRun (fun r => { r with global := .running }) { s with nextSerial := packSerialBase s })
  | .stopped => finish .start .done (modRun (fun r => { r with global := .running }) s)
  | .running | .stopping => finish .start .wrongState s

/-- START (R174). -/
def execStart (index : Byte) (s : State) : Host.Outcome State Fault Refusal :=
  live s (takeAction .start index startPart)

/-! ## STOP and HALT (R175, R176) -/

/-- STOPPING begins, BUSY with the action: every OPEN frame seals with the cause, every held announce is refused (R175,
R32, R55). -/
def beginStop (a : Action) (cause : SealCause) (s : State) : State :=
  forLanes (fun l => refuseHeld l .refusedStopping)
    (forFrames (fun f => requestSeal f cause)
      (modRun (fun r => { r with global := .stopping, running := some a }) s))

/-- STOP (R175), with the stop's test (R177). -/
def stopPart (s : State) : State :=
  match s.run.global with
  | .running => tryStop (beginStop .stop .stop s)
  | .config | .stopping | .stopped => finish .stop .wrongState s

/-- STOP (R175). -/
def execStop (index : Byte) (s : State) : Host.Outcome State Fault Refusal := live s (takeAction .stop index stopPart)

/-- HALT voids the file of a RECEIVING lane (R176, R77). -/
def haltLane (l : LaneNo) (s : State) : State :=
  if (s.lane l).state == .receiving then tryVoidEnd l (beginVoid l .halt s) else s

/-- HALT in RUNNING does all that STOP does and voids the receiving files; in STOPPING it voids them and takes over the
action status (R176). -/
def haltPart (s : State) : State :=
  match s.run.global with
  | .running => tryStop (forLanes haltLane (beginStop .halt .halt s))
  | .stopping => tryStop (forLanes haltLane (modRun (fun r => { r with running := some .halt }) s))
  | .config | .stopped => finish .halt .wrongState s

/-- HALT (R176). -/
def execHalt (index : Byte) (s : State) : Host.Outcome State Fault Refusal := live s (takeAction .halt index haltPart)

/-! ## ENTER_CONFIG (R178) -/

/-- Every frame is FREE (R178). -/
def allFree (s : State) : Bool := frameNos.all fun f => (s.frame f).state == .free

/-- A MUTED lane enters IDLE (R178). -/
def unmute (l : LaneNo) (s : State) : State :=
  modLane l (fun ln => { ln with state := if ln.state == .muted then .idle else ln.state }) s

/-- ENTER_CONFIG, by the global state and the frame table (R173, R178). -/
def enterConfigPart (s : State) : State :=
  match s.run.global with
  | .stopped =>
    if allFree s then
      finish .enterConfig .done (modRun (fun r => { r with global := .config }) (forLanes unmute s))
    else finish .enterConfig .notEmpty s
  | .config | .running | .stopping => finish .enterConfig .wrongState s

/-- ENTER_CONFIG (R178). -/
def execEnterConfig (index : Byte) (s : State) : Host.Outcome State Fault Refusal :=
  live s (takeAction .enterConfig index enterConfigPart)

/-! ## Frame actions (R55, R152, R154, R155) -/

/-- FLUSH_CLASS of class `c` (R55). -/
def flushPart (c : ClassNo) (s : State) : State :=
  match openFrameOf s c with
  | some f => finish .flushClass .done (enterSealing f .flush s)
  | none => finish .flushClass .nothing s

/-- FLUSH_CLASS (R55, R188): an index above 3 is answered BAD_ITEM and is not taken. -/
def execFlushClass (index : Byte) (s : State) : Host.Outcome State Fault Refusal :=
  live s fun s =>
    if 3 < index.toNat then linkAnswer .badItem 0x45#8 index 0 s
    else takeAction .flushClass index (flushPart (Fin.ofNat 4 index.toNat)) s

/-- A frame action: in an allowed state of an existing frame it acts, else its result is WRONG_STATE (R42, R152, R154,
R155, R188). -/
def framePart (a : Action) (index : Byte) (allowed : FrameState → Bool) (f : FrameNo → State → State) (s : State) :
    State :=
  if decide (index.toNat < frameCount s) && decide (index.toNat < 8)
      && allowed (s.frame (Fin.ofNat 8 index.toNat)).state then
    finish a .done (f (Fin.ofNat 8 index.toNat) s)
  else finish a .wrongState s

/-- RELEASE (R152). -/
def execRelease (index : Byte) (s : State) : Host.Outcome State Fault Refusal :=
  live s (takeAction .release index (framePart .release index (· == .drained) freeFrame))

/-- DISCARD (R154): SEALED, DRAINED or HELD to FREE; a SEALED frame leaves the seal queue. -/
def execDiscard (index : Byte) (s : State) : Host.Outcome State Fault Refusal :=
  live s (takeAction .discard index (framePart .discard index (fun st => st == .sealed || st == .drained || st == .held)
    (fun f s => freeFrame f (leaveSealQ f s))))

/-- REDRAIN (R155). -/
def execRedrain (index : Byte) (s : State) : Host.Outcome State Fault Refusal :=
  live s (takeAction .redrain index (framePart .redrain index (· == .held) backToSealed))

/-! ## RESET_CORE (R179) -/

/-- What a core reset does with a record (R16): answered unless it is forwarded. -/
def resetRecord (st : Stream) (r : OpenReq) (s : State) : State :=
  match r.stage with
  | .held => answerRecord st r.slot .refused (match st with | .write => [] | .read => zeroBeats r.beats) s
  | .forwarded => modRecord st r.slot (fun x => { x with preReset := true }) s
  | .pendingOwner code data => passAnswer st r code data s
  | .answerable code data => answerRecord st r.slot code data s

/-- Every record of a stream, in list order (log 20). -/
def resetRecords (st : Stream) (s : State) : State := (s.records st).foldl (fun t r => resetRecord st r t) s

/-- A fill burst issued before the reset: its answer will be discarded (R16, R121). -/
def Outstanding.orphan (o : Outstanding) : Outstanding :=
  match o.origin with
  | .burst _ _ _ => { o with origin := .dropped }
  | _ => o

/-- The ports after a core reset (R16). -/
def resetPorts (s : State) : State :=
  modPort (fun p => { p with outstanding := p.outstanding.map Outstanding.orphan, lastGrant := .fill })
    (resetRecords .read (resetRecords .write s))

/-- Every block but the ports after a core reset; the items, the selection and the link are kept (R40, R62, R94, R107, R121,
R137, R159, R169, R179, R193). -/
def resetBlocks (s : State) : State :=
  { s with
    lanes := Vector.replicate 16 Lane.reset
    frames := Vector.replicate 8 Frame.free
    classTable := Vector.replicate 4 none
    waitList := []
    nextSerial := packSerialBase s
    fill := { queue := [], progress := none }
    sealQ := []
    lastPop := none
    owed := 0
    tick := 0
    run := { global := .config, running := some .resetCore, last := s.run.last, opened := 0, sealedN := 0
             drainedN := 0, heldN := 0 }
    attn := AttnFlags.clear }

/-- RESET_CORE, with the test of the core (R179, R180). -/
def resetCorePart (s : State) : State := tryClear (resetBlocks (resetPorts s))

/-- RESET_CORE (R179). -/
def execResetCore (index : Byte) (s : State) : Host.Outcome State Fault Refusal :=
  live s (takeAction .resetCore index resetCorePart)

/-! ## RESET# and power-up (R17, R181) -/

/-- RESET# falls: the tick stands at 0, and the part takes nothing until the hard reset (R181; log 8). -/
def execResetAssert (s : State) : Host.Outcome State Fault Refusal := .next { s with resetLow := true, tick := 0 }

/-- The state after hard reset: every block initial, nothing answered; the buffer tags outstanding are kept as late, and
the untaken writes stay on the fabric (R17, R181). -/
def hardResetState (s : State) : State :=
  { State.reset with
    pending := s.pending
    port := { Port.reset with
              late := s.port.late ++ s.port.outstanding.map (·.btag)
              untaken := s.port.untaken
              answers := s.port.answers }
    pulses := s.pulses
    free := s.free }

/-- HARD_RESET (R181): RESET# rises, or power-up completes. -/
def execHardReset (s : State) : Host.Outcome State Fault Refusal := .next (hardResetState s)

end Sys2Proof.Machine
end

