-- ==== Sys2Proof/Machine/Fabric.lean ====
section
/-! DEFINITION. The fabric requests: SHAPE_CHECK_REFUSAL, PLAIN_REQUEST, FRAME_REGION_WRITE, ANNOUNCE, CONTROL_AREA_WRITE,
BODY_WRITE, STATUS_READ, MIXED_READ, BODY_READ, FRAME_REGION_READ (chapters 1, 2, 4, 9). -/

namespace Sys2Proof.Machine

open Sys2Proof.Config

/-! ## Taking requests (R2, R3) -/

/-- The port takes a write that it routes itself, presented now or waiting at any place, when the route is the one named and
the write list has room: no lane's intake is in its way (R2, R3). -/
def portWrite (rt : Route) (src : WriteSource) (k : WriteReq → State → State) (s : State) : State :=
  match s.sourceWrite src with
  | some w => if routeWrite s w == rt && s.hasRoom .write then k w (leaveFabric src s) else s
  | none => s

/-- The port takes a read when the route is the one named and the read list has room (R2, R3). -/
def portRead (rt : Route) (r : ReadReq) (k : State → State) (s : State) : State :=
  if routeRead s r == rt && s.hasRoom .read then k s else s

/-- The lane takes the head of its intake: it holds no announce (R20), and the write list has room (R2). -/
def laneTakes (s : State) (l : LaneNo) : Bool :=
  (s.lane l).held.isNone && (s.lane l).state != .waiting && s.hasRoom .write

/-- A write of one kind to a lane (R3, R20): taken when it stands at the head of the lane's intake and the lane takes, else
left untaken. Each command names one write; a head left waiting is taken by a later one (DESIGN CHOICE, log 3). -/
def laneWrite (kind : LaneWriteKind) (src : WriteSource) (act : LaneNo → Nat → WriteReq → State → State) (s : State) :
    State :=
  match s.sourceWrite src with
  | some w =>
    match routeWrite s w with
    | .aperture l off =>
      if laneWriteKind off w.bytes == kind then
        if laneTakes s l && s.headOf l src then act l off w (leaveFabric src s) else leaveUntaken src s
      else s
    | _ => s
  | none => s

/-- A read of one kind of a lane's aperture; reads are not held behind the lane's intake (R3, R23). -/
def laneRead (kind : LaneReadKind) (r : ReadReq) (act : LaneNo → Nat → State → State) (s : State) : State :=
  match routeRead s r with
  | .aperture l off => if laneReadKind off (8 * r.beats) == kind && s.hasRoom .read then act l off s else s
  | _ => s

/-! ## Requests the port answers or forwards itself -/

/-- SHAPE_CHECK_REFUSAL (R7). -/
def execShapeCheckRefusal (r : FabricReq) (s : State) : Host.Outcome State Fault Refusal :=
  checked r.wf s fun s =>
    match r with
    | .write src => portWrite .refusedShape src (fun w => giveAnswer .write w.tag .refused []) s
    | .read q => portRead .refusedShape q (giveAnswer .read q.tag .refused (zeroBeats q.beats)) s

/-- PLAIN_REQUEST (R10, R14). -/
def execPlainRequest (r : FabricReq) (s : State) : Host.Outcome State Fault Refusal :=
  checked r.wf s fun s =>
    match r with
    | .write src =>
      portWrite .plain src (fun w =>
        takeForwarded .write w.tag .plain .plain (w.bytes.length / 8) { addr := w.addr, body := .write w.bytes }) s
    | .read q =>
      portRead .plain q (takeForwarded .read q.tag .plain .plain q.beats { addr := q.addr, body := .read q.beats }) s

/-- FRAME_REGION_WRITE: a frame-class write is answered REFUSED, whatever the frame's state or the offset (R6). -/
def execFrameRegionWrite (src : WriteSource) (s : State) : Host.Outcome State Fault Refusal :=
  checked src.wf s fun s =>
    match s.sourceWrite src with
    | some w =>
      match routeWrite s w with
      | .frame f off => portWrite (.frame f off) src (fun w => giveAnswer .write w.tag .refused []) s
      | _ => s
    | none => s

/-! ## Announces (R24 to R28) -/

/-- A lane's write is refused and counted (R21, R22, R65, R67, R68, R39). -/
def refuseWrite (l : LaneNo) (tag : Nat) (s : State) : State :=
  modLane l (fun ln => { ln with refusedWr := ln.refusedWr + 1 }) (giveAnswer .write tag .refused [] s)

/-- The lane of a refused announce goes on as the state it was taken in requires (R25). -/
def afterRefusal (l : LaneNo) (s : State) : State :=
  match (s.lane l).state with
  | .idle | .muted => modLane l (fun ln => { ln with state := .muted, muteMark := false }) s
  | .receiving => tryVoidEnd l (modLane l (fun ln => { ln with muteMark := true }) (beginVoid l .superseded s))
  | .voiding => modLane l (fun ln => { ln with muteMark := true }) s
  | .waiting => s

/-- A refused announce: answered REFUSED, its result, counter and LANE_ERR, and the lane's next state (R25). -/
def refuseAnnounce (l : LaneNo) (tag : Nat) (a : RawAnnounce) (code : ResultCode) (s : State) : State :=
  tryStop (afterRefusal l
    (recordRefusal l (refusalResult code a.sumGiven a.sealAfter a.wtag a.len) (giveAnswer .write tag .refused [] s)))

/-- The record of an announce's write while it is not answered (R29). -/
def announceRecord (l : LaneNo) (slot tag : Nat) : OpenReq :=
  { slot := slot, tag := tag, cls := .aperture l, origin := .heldAnnounce l, stage := .held, beats := 8
    preReset := false }

/-- The lane holds an announce behind a void (R26). -/
def holdBehindVoid (l : LaneNo) (a : Announce) (slot : Nat) (s : State) : State :=
  modLane l (fun ln => { ln with held := some { ann := a, reason := .voiding, timer := startTimer s, slot := slot }
                                 muteMark := false }) s

/-- A valid announce, by the state in which it is taken (R26). -/
def acceptAnnounce (l : LaneNo) (a : Announce) (slot : Nat) (s : State) : State :=
  match (s.lane l).state with
  | .idle | .muted => requestPlacement l a slot s
  | .receiving => tryVoidEnd l (holdBehindVoid l a slot (beginVoid l .superseded s))
  | .voiding => holdBehindVoid l a slot s
  | .waiting => s

/-- A lane acts on an announce it takes (R24). -/
def takeAnnounce (l : LaneNo) (_off : Nat) (w : WriteReq) (s : State) : State :=
  match validateAnnounce s (parseAnnounce (w.bytes.filterMap id)) with
  | some code => refuseAnnounce l w.tag (parseAnnounce (w.bytes.filterMap id)) code s
  | none =>
    acceptAnnounce l (parseAnnounce (w.bytes.filterMap id)).valid (s.freshSlot .write)
      (addRecord .write (announceRecord l (s.freshSlot .write) w.tag) s)

/-- ANNOUNCE (R24). -/
def execAnnounce (src : WriteSource) (s : State) : Host.Outcome State Fault Refusal :=
  checked src.wf s (laneWrite .announce src takeAnnounce)

/-- CONTROL_AREA_WRITE (R21). -/
def execControlAreaWrite (src : WriteSource) (s : State) : Host.Outcome State Fault Refusal :=
  checked src.wf s (laneWrite .controlArea src fun l _ w => refuseWrite l w.tag)

/-! ## Body writes (R22, R63 to R69) -/

/-- The lane after it forwards a body write (R69, R73). -/
def Lane.claimed (es : List Extent) (t : Timer) (ln : Lane) : Lane :=
  { ln with extents := es, outstanding := ln.outstanding + 1, timer := some t, firstWrite := true }

/-- Bytes received becomes the total length of the extents (R69, R99; R100: only while the entry is PLACED or VOIDING). -/
def Entry.receive (n : Nat) (en : Entry) : Entry := if en.pending then { en with received := n } else en

/-- A body write is forwarded into the file's record, and claimed (R63, R69). -/
def forwardBodyWrite (l : LaneNo) (f : FrameNo) (e : Nat) (en : Entry) (k : Nat) (w : WriteReq)
    (bytes : List (Option Byte)) (c : Extent) (es : List Extent) (s : State) : State :=
  takeForwarded .write w.tag (.aperture l)
    (.bodyWrite { lane := l, frame := f, entry := e, off := en.off, k := k, lo := c.start, hi := c.stop
                  pastEnd := pastEnd en.len k w.bytes.length })
    (w.bytes.length / 8) { addr := frameAddr s f (en.off + 64 + k), body := .write bytes }
    (modLane l (Lane.claimed es (startTimer s)) (modEntry f e (Entry.receive (claimedBytes es)) s))

/-- A body write that is answered OKAY without forwarding (R64, R65). -/
def noteBodyWrite (l : LaneNo) (tag : Nat) (clamped : Bool) (s : State) : State :=
  modLane l (fun ln => { ln with clamped := if clamped then ln.clamped + 1 else ln.clamped })
    (giveAnswer .write tag .okay [] s)

/-- A body write taken by a RECEIVING lane (R63 to R69). -/
def receiveBodyWrite (l : LaneNo) (off : Nat) (w : WriteReq) (s : State) : State :=
  match s.currentFile l with
  | some (f, e, en) =>
    match bodyPlan en.len (s.lane l).extents (off - 64) w.bytes with
    | .noted clamped => noteBodyWrite l w.tag clamped s
    | .refused => refuseWrite l w.tag s
    | .forward bytes c es => forwardBodyWrite l f e en (off - 64) w bytes c es s
  | none => s

/-- A lane acts on a body write it takes, by its state (R22). -/
def takeBodyWrite (l : LaneNo) (off : Nat) (w : WriteReq) (s : State) : State :=
  match (s.lane l).state with
  | .idle | .voiding => refuseWrite l w.tag s
  | .muted => giveAnswer .write w.tag .okay [] s
  | .receiving => receiveBodyWrite l off w s
  | .waiting => s

/-- BODY_WRITE (R22). -/
def execBodyWrite (src : WriteSource) (s : State) : Host.Outcome State Fault Refusal :=
  checked src.wf s (laneWrite .body src takeBodyWrite)

/-! ## Lane reads (R23, R37, R38, R72) -/

/-- A status read: the beats of the record that the span covers, and the pop of a read that covers offsets 56 to 63 (R37,
R38). -/
def takeStatusRead (r : ReadReq) (l : LaneNo) (off : Nat) (s : State) : State :=
  modLane l (fun ln => if 56 < off + 8 * r.beats then { ln with results := ln.results.tail } else ln)
    (giveAnswer .read r.tag .okay (((statusRecord s l).drop off).take (8 * r.beats)) s)

/-- STATUS_READ (R23, R37). -/
def execStatusRead (r : ReadReq) (s : State) : Host.Outcome State Fault Refusal :=
  checked r.wf s (laneRead .status r (takeStatusRead r))

/-- MIXED_READ (R23). -/
def execMixedRead (r : ReadReq) (s : State) : Host.Outcome State Fault Refusal :=
  checked r.wf s (laneRead .mixed r fun _ _ => giveAnswer .read r.tag .refused (zeroBeats r.beats))

/-- A body read of a lane with a file: mapped as R63 maps, beats at or past L not forwarded (R72). -/
def mapBodyRead (r : ReadReq) (l : LaneNo) (k : Nat) (f : FrameNo) (en : Entry) (s : State) : State :=
  if keptBeats en.len k (8 * r.beats) = 0 then giveAnswer .read r.tag .okay (zeroBeats r.beats) s
  else
    takeForwarded .read r.tag (.aperture l) (.bodyRead { lane := l, k := k, len := en.len }) r.beats
      { addr := frameAddr s f (en.off + 64 + k), body := .read (keptBeats en.len k (8 * r.beats)) } s

/-- A body read, by the lane's state (R23, R72). -/
def takeBodyRead (r : ReadReq) (l : LaneNo) (off : Nat) (s : State) : State :=
  match (s.lane l).state with
  | .receiving | .voiding =>
    match s.currentFile l with
    | some (f, _, en) => mapBodyRead r l (off - 64) f en s
    | none => s
  | .idle | .waiting | .muted => giveAnswer .read r.tag .refused (zeroBeats r.beats) s

/-- BODY_READ (R72). -/
def execBodyRead (r : ReadReq) (s : State) : Host.Outcome State Fault Refusal :=
  checked r.wf s (laneRead .body r (takeBodyRead r))

/-- FRAME_REGION_READ (R140). -/
def execFrameRegionRead (r : ReadReq) (s : State) : Host.Outcome State Fault Refusal :=
  checked r.wf s fun s =>
    match routeRead s r with
    | .frame f off => if s.hasRoom .read then frameRead r f off s else s
    | _ => s

end Sys2Proof.Machine
end

