-- ==== Sys2Proof/Machine/Units.lean ====
section
/-! DEFINITION. The events of the part's own units: FILL_JOB_COMPLETE, FILE_COMPLETION, VOID_END, HELD_ANNOUNCE_RETRY,
SEAL_READY, DRAIN_EVALUATION, FREE_PULSE, STOP_COMPLETE, CORE_CLEAR. The rules make each of them follow in the step of the
event that makes its condition hold, and that step does so (log 1); the command does the same in any state in which the
condition holds. -/

namespace Sys2Proof.Machine

/-- FILL_JOB_COMPLETE (R115). -/
def execFillJobComplete (s : State) : Host.Outcome State Fault Refusal := live s tryCompleteJob

/-- A written file with job room (R75, R76). -/
def completionDue (s : State) (l : LaneNo) : Bool :=
  (s.lane l).state == .receiving && (s.lane l).lastWrite.isSome
    && ((s.currentFile l).any fun (_, _, en) => jobRoom s l en)

/-- FILE_COMPLETION (R76). -/
def execFileCompletion (l : LaneNo) (s : State) : Host.Outcome State Fault Refusal :=
  live s fun s => if completionDue s l then tryStop (tryComplete l s) else s

/-- VOID_END (R79). -/
def execVoidEnd (l : LaneNo) (s : State) : Host.Outcome State Fault Refusal :=
  live s fun s => if voidMayEnd s l then tryStop (endVoid l s) else s

/-- A held JOB_LIMIT announce whose wait reason has cleared (R30, R49; log 17). -/
def retryDue (s : State) (l : LaneNo) : Bool :=
  (s.lane l).state == .waiting
    && ((s.lane l).held.any fun h => h.reason == .jobLimit && jobTest s l h.ann.len)

/-- HELD_ANNOUNCE_RETRY (R30). -/
def execHeldAnnounceRetry (l : LaneNo) (s : State) : Host.Outcome State Fault Refusal :=
  live s fun s => if retryDue s l then retryJobLimit l s else s

/-- SEAL_READY (R125, R126). -/
def execSealReady (f : FrameNo) (s : State) : Host.Outcome State Fault Refusal := live s (examine f)

/-- DRAIN_EVALUATION (R148). -/
def execDrainEvaluation (f : FrameNo) (s : State) : Host.Outcome State Fault Refusal := live s (tryEvaluate f)

/-- One pulse is given, and the pending-pulse count falls (R156). -/
def givePulse (s : State) : State := { s with owed := s.owed - 1, pulses := s.pulses + 1 }

/-- FREE_PULSE (R156): one whole pulse of FREEPULSE, while one is owed (log 12). -/
def execFreePulse (s : State) : Host.Outcome State Fault Refusal :=
  live s fun s => if 0 < s.owed then givePulse s else s

/-- STOP_COMPLETE (R177). -/
def execStopComplete (s : State) : Host.Outcome State Fault Refusal := live s tryStop

/-- CORE_CLEAR (R180). -/
def execCoreClear (s : State) : Host.Outcome State Fault Refusal := live s tryClear

end Sys2Proof.Machine
end

