-- ==== Sys2Proof/Machine/Dispatch.lean ====
section
/-! DEFINITION. The effect of every command: one arm per constructor of `Instr`, in the order of spec/opcode_table.json. -/

namespace Sys2Proof.Machine

def exec (i : Instr) (s : State) : Host.Outcome State Fault Refusal :=
  match i with
  | .shapeCheckRefusal r => Sys2Proof.Machine.execShapeCheckRefusal r s
  | .plainRequest r => Sys2Proof.Machine.execPlainRequest r s
  | .frameRegionWrite w => Sys2Proof.Machine.execFrameRegionWrite w s
  | .announce w => Sys2Proof.Machine.execAnnounce w s
  | .controlAreaWrite w => Sys2Proof.Machine.execControlAreaWrite w s
  | .bodyWrite w => Sys2Proof.Machine.execBodyWrite w s
  | .statusRead r => Sys2Proof.Machine.execStatusRead r s
  | .mixedRead r => Sys2Proof.Machine.execMixedRead r s
  | .bodyRead r => Sys2Proof.Machine.execBodyRead r s
  | .frameRegionRead r => Sys2Proof.Machine.execFrameRegionRead r s
  | .arbiterGrant => Sys2Proof.Machine.execArbiterGrant s
  | .plainBufferAnswer btag a => Sys2Proof.Machine.execPlainBufferAnswer btag a s
  | .bodyWriteOkay btag => Sys2Proof.Machine.execBodyWriteOkay btag s
  | .bodyWriteFault btag => Sys2Proof.Machine.execBodyWriteFault btag s
  | .bodyReadAnswer btag a => Sys2Proof.Machine.execBodyReadAnswer btag a s
  | .drainReadOkay btag data => Sys2Proof.Machine.execDrainReadOkay btag data s
  | .drainReadFault btag => Sys2Proof.Machine.execDrainReadFault btag s
  | .fillBurstOkay btag => Sys2Proof.Machine.execFillBurstOkay btag s
  | .fillBurstFault btag => Sys2Proof.Machine.execFillBurstFault btag s
  | .passThroughAfterCoreReset btag a => Sys2Proof.Machine.execPassThroughAfterCoreReset btag a s
  | .lateAnswerDiscard btag => Sys2Proof.Machine.execLateAnswerDiscard btag s
  | .fillJobComplete => Sys2Proof.Machine.execFillJobComplete s
  | .fileCompletion l => Sys2Proof.Machine.execFileCompletion l s
  | .voidEnd l => Sys2Proof.Machine.execVoidEnd l s
  | .heldAnnounceRetry l => Sys2Proof.Machine.execHeldAnnounceRetry l s
  | .sealReady f => Sys2Proof.Machine.execSealReady f s
  | .drainEvaluation f => Sys2Proof.Machine.execDrainEvaluation f s
  | .freePulse => Sys2Proof.Machine.execFreePulse s
  | .tickAdvance => Sys2Proof.Machine.execTickAdvance s
  | .ageExpiry f => Sys2Proof.Machine.execAgeExpiry f s
  | .laneTimerExpiry l => Sys2Proof.Machine.execLaneTimerExpiry l s
  | .holdTimeoutExpiry l => Sys2Proof.Machine.execHoldTimeoutExpiry l s
  | .drainTimeoutExpiry f => Sys2Proof.Machine.execDrainTimeoutExpiry f s
  | .stopComplete => Sys2Proof.Machine.execStopComplete s
  | .coreClear => Sys2Proof.Machine.execCoreClear s
  | .linkFrameDiscard bytes bits => Sys2Proof.Machine.execLinkFrameDiscard bytes bits s
  | .badItem r => Sys2Proof.Machine.execBadItem r s
  | .configItemWrite item index data => Sys2Proof.Machine.execConfigItemWrite item index data s
  | .timerLimitWrite item index data => Sys2Proof.Machine.execTimerLimitWrite item index data s
  | .attnMaskWrite index data => Sys2Proof.Machine.execAttnMaskWrite index data s
  | .indexSelect index data => Sys2Proof.Machine.execIndexSelect index data s
  | .attnCauseRead index => Sys2Proof.Machine.execAttnCauseRead index s
  | .sealNextPop => Sys2Proof.Machine.execSealNextPop s
  | .start index => Sys2Proof.Machine.execStart index s
  | .stop index => Sys2Proof.Machine.execStop index s
  | .halt index => Sys2Proof.Machine.execHalt index s
  | .enterConfig index => Sys2Proof.Machine.execEnterConfig index s
  | .resetCore index => Sys2Proof.Machine.execResetCore index s
  | .flushClass index => Sys2Proof.Machine.execFlushClass index s
  | .release index => Sys2Proof.Machine.execRelease index s
  | .discard index => Sys2Proof.Machine.execDiscard index s
  | .redrain index => Sys2Proof.Machine.execRedrain index s
  | .resetAssert => Sys2Proof.Machine.execResetAssert s
  | .hardReset => Sys2Proof.Machine.execHardReset s

end Sys2Proof.Machine
end

