-- ==== Sys2Proof/Safety.lean ====
section
/-! DEFINITION. What a sound state of the part is, in the terms the statements use: the properties that the rules say hold at
every moment. -/

namespace Sys2Proof.Machine

open Sys2Proof.Config

/-- The seal queue holds only frames in SEALED state, each at most once (R131). -/
def SealQueueOk (s : State) : Prop := s.sealQ.Nodup ∧ ∀ f ∈ s.sealQ, (s.frame f).state = .sealed

/-- The lane has no file: no reference, no extents, nothing outstanding, its timer stopped (R18, R19). -/
def Lane.noFile (ln : Lane) : Prop :=
  ln.file = none ∧ ln.extents = [] ∧ ln.outstanding = 0 ∧ ln.timer = none

/-- The optional fields that the lane state makes present or absent (R19). -/
def Lane.shaped (ln : Lane) : Prop :=
  match ln.state with
  | .idle => ln.held = none ∧ ln.noFile ∧ ln.muteMark = false
  | .waiting => (∃ h, ln.held = some h ∧ h.reason ≠ .voiding) ∧ ln.noFile ∧ ln.muteMark = false
  | .receiving => ln.held = none ∧ ln.file.isSome ∧ ln.muteMark = false
  | .voiding => (∀ h, ln.held = some h → h.reason = .voiding ∧ ln.muteMark = false) ∧ ln.file.isSome ∧ ln.timer = none
  | .muted => ln.held = none ∧ ln.noFile ∧ ln.muteMark = false

/-- The frame wait list names exactly the lanes that hold an announce with reason NO_FRAME, each once (R57). -/
def WaitListOk (s : State) : Prop :=
  s.waitList.Nodup ∧ ∀ l, l ∈ s.waitList ↔ ∃ h, (s.lane l).held = some h ∧ h.reason = .noFrame

/-- Every lane has the shape of its state, and the wait list names its lanes (R19, R57). -/
def LanesOk (s : State) : Prop := (∀ l, (s.lane l).shaped) ∧ WaitListOk s

/-- A stored sum lies in [0, P − 1] (R83). -/
def TwoSum.inRange (x : TwoSum) : Prop := x.a < sumModulus ∧ x.b < sumModulus

/-- Every sum of a frame lies in range: pack sum, drain sum and file sums (R83). -/
def Frame.sumsOk (fr : Frame) : Prop :=
  fr.sums.inRange ∧ (∀ d, fr.drain = some d → d.sums.inRange) ∧ ∀ en ∈ fr.entries, en.sums.inRange

/-- Every stored sum lies in range (R83). -/
def SumsOk (s : State) : Prop := ∀ f, (s.frame f).sumsOk

/-- Class c's entry names frame f exactly when f is OPEN and bound to c (R43). -/
def ClassTableOk (s : State) : Prop :=
  ∀ c f, s.classFrame c = some f ↔ (s.frame f).state = .opened ∧ (s.frame f).cls = some c

/-- The action status agrees with the global state: STOP and HALT run exactly in STOPPING, RESET_CORE runs in CONFIG, and no
other action runs (R172, R175 to R180). -/
def RunOk (s : State) : Prop :=
  match s.run.running with
  | none => s.run.global ≠ .stopping
  | some a => ((a = .stop ∨ a = .halt) ∧ s.run.global = .stopping) ∨ (a = .resetCore ∧ s.run.global = .config)

/-- The lists hold no more than the places the rules give them: 64 open requests a stream (R2), 4 results (R36) and 8 extents
(R66) a lane. -/
def PlacesOk (s : State) : Prop :=
  s.port.writes.length ≤ listCapacity ∧ s.port.reads.length ≤ listCapacity ∧
    ∀ l, (s.lane l).results.length ≤ resultCapacity ∧ (s.lane l).extents.length ≤ extentCapacity

/-- The model's numbers tell the open requests of a stream apart, and the buffer tags outstanding and late (R9, log 6). -/
def NumbersOk (s : State) : Prop :=
  (s.port.writes.map (·.slot)).Nodup ∧ (s.port.reads.map (·.slot)).Nodup ∧
    (s.port.outstanding.map (·.btag) ++ s.port.late).Nodup

/-! ## Taking requests -/

/-- The write that a source names: the one presented, or the one that waits untaken at a place (R3). -/
def writeAt (s : State) : WriteSource → Option WriteReq
  | .present w => some w
  | .waiting n => s.port.untaken[n]?

/-- The state once that write waits no longer (R3). -/
def afterLeaving : WriteSource → State → State
  | .present _, s => s
  | .waiting n, s => { s with port := { s.port with untaken := s.port.untaken.eraseIdx n } }

/-- Among the untaken writes `ws` none is addressed to lane `l` (R3). -/
def NoneFor (s : State) (l : LaneNo) (ws : List WriteReq) : Prop := ∀ v ∈ ws, ∀ off, routeWrite s v ≠ .aperture l off

/-- The write is the head of lane `l`'s intake: no write addressed to that lane was presented before it and waits (R3). -/
def HeadOfIntake (s : State) (l : LaneNo) : WriteSource → Prop
  | .present _ => NoneFor s l s.port.untaken
  | .waiting n => NoneFor s l (s.port.untaken.take n)

/-- Lane `l` takes the write `w` at aperture offset `off`: the part runs, the write is the head of its intake, the lane
holds no announce, and the write list has room (R2, R3, R6, R20, R181). -/
def LaneTakesWrite (s : State) (src : WriteSource) (l : LaneNo) (off : Nat) (w : WriteReq) : Prop :=
  s.resetLow = false ∧ src.wf = true ∧ writeAt s src = some w ∧ HeadOfIntake s l src ∧
    routeWrite s w = .aperture l off ∧ (s.lane l).held = none ∧ (s.lane l).state ≠ .waiting ∧
    s.port.writes.length < listCapacity

/-- Lane `l` takes the read `r` at aperture offset `off` (R2, R3, R6, R181). -/
def LaneTakesRead (s : State) (r : ReadReq) (l : LaneNo) (off : Nat) : Prop :=
  s.resetLow = false ∧ r.wf = true ∧ routeRead s r = .aperture l off ∧ s.port.reads.length < listCapacity

/-- The drain monitor takes the read `r` at frame offset `off` of frame `f` (R2, R6, R140, R181). -/
def FrameTakesRead (s : State) (r : ReadReq) (f : FrameNo) (off : Nat) : Prop :=
  s.resetLow = false ∧ r.wf = true ∧ routeRead s r = .frame f off ∧ s.port.reads.length < listCapacity

/-- The request is of class plain (R5, R6, R7). -/
def PlainClass (s : State) (a : Addr) (n : Nat) : Prop :=
  s.run.global = .config ∨ (shapeFails a n = false ∧ inAperture s a = false ∧ inFrameRegion s a = false) ∨
    (shapeFails a n = true ∧ touchesRegions s a n = false)

/-- An answer given on a stream's answer path, and nothing else (R4). -/
def answering (st : Stream) (tag : Nat) (code : RespCode) (data : List Byte) (s : State) : State :=
  { s with port := { s.port with
      answers := s.port.answers ++ [{ stream := st, tag := tag, code := code, data := data }] } }

/-- A taken request forwarded: its record at stage forwarded, and its buffer request at the tail of the pass-through queue,
and nothing else (R2, R10, R11). -/
def forwarding (st : Stream) (tag : Nat) (cls : ReqClass) (origin : ReqOrigin) (beats : Nat) (req : BufReq) (s : State) :
    State :=
  let rec_ : OpenReq := { slot := s.freshSlot st, tag := tag, cls := cls, origin := origin, stage := .forwarded
                          beats := beats, preReset := false }
  { s with port := { s.port with
      writes := if st = .write then s.port.writes ++ [rec_] else s.port.writes
      reads := if st = .read then s.port.reads ++ [rec_] else s.port.reads
      passQ := s.port.passQ ++ [{ stream := st, slot := s.freshSlot st, req := req }] } }

/-- The controller's answer with tag `btag` belongs to record `r` of stream `st`, its data as long as the request (R1, R4,
R9). -/
def Answers (s : State) (btag : Nat) (st : Stream) (r : OpenReq) (data : List Byte) : Prop :=
  ∃ o, s.resetLow = false ∧ s.findOutstanding btag = some o ∧ o.origin = .fabric st r.slot ∧
    s.findRecord st r.slot = some r ∧ dataWf data = true ∧ data.length = o.req.dataBytes

/-- The origin record of `btag` and the record `r` of stream `st` removed, and the fabric answered (R2, R9). -/
def settling (btag : Nat) (st : Stream) (r : OpenReq) (code : RespCode) (data : List Byte) (s : State) : State :=
  { s with port := { s.port with
      outstanding := s.port.outstanding.filter (fun o => o.btag != btag)
      writes := if st = .write then s.port.writes.filter (fun x => x.slot != r.slot) else s.port.writes
      reads := if st = .read then s.port.reads.filter (fun x => x.slot != r.slot) else s.port.reads
      answers := s.port.answers ++ [{ stream := st, tag := r.tag, code := code, data := data }] } }

/-! ## Drains and the link -/

/-- The member and counted marks of every open read of frame `f` cleared, and nothing else (R141, R147, R148, R150). -/
def unmarking (f : FrameNo) (s : State) : State :=
  { s with port := { s.port with
      reads := s.port.reads.map fun x =>
        match x.origin with
        | .drainRead i =>
          if i.frame = f then { x with origin := .drainRead { i with member := false, counted := false } } else x
        | _ => x } }

/-- The link has answered a frame, its receiver empty and CS# high, and nothing else (R182, R184). -/
def linkAnswering (resp : LinkResp) (item index : Byte) (data : Word) (s : State) : State :=
  { s with link := { receiver := [], sending := none
                     answer := { resp := resp, item := item, index := index, data := data } } }

/-- An action has finished with a result (R172). -/
def finished (a : Action) (r : ActionResult) (s : State) : State := { s with run := { s.run with last := some (r, a) } }

/-- Run control takes a frame action: no action runs, or a stop does (R173). -/
def TakesFrameAction (s : State) : Prop :=
  s.resetLow = false ∧ (s.run.running = none ∨ s.run.running = some .stop ∨ s.run.running = some .halt)

/-! ## Placement -/

/-- The frame record sealed with a cause, and not ready yet (R54, R124). -/
def Frame.sealedBy (cause : SealCause) (now : Tick) (fr : Frame) : Frame :=
  { fr with state := .sealing, sealCause := some cause, sealTick := some now, stage := .gathering, ageReported := false }

/-- The record of a frame in which a file has just been placed, once the checks of R52 have run on it. -/
def dueFrame (s : State) (fr : Frame) : Frame :=
  if s.items.sealThreshold.toNat < 256 ∧ frameSize s * s.items.sealThreshold.toNat / 256 ≤ fr.cursor then
    fr.sealedBy .threshold s.tick
  else if fr.entries.length = 2048 then fr.sealedBy .entryLimit s.tick
  else fr

/-- The same when the file has length 0 and has completed: SEAL_AFTER seals a frame that the checks leave OPEN (R28, R52). -/
def emptyDueFrame (s : State) (sealAfter : Bool) (fr : Frame) : Frame :=
  if (dueFrame s fr).state = .opened ∧ sealAfter = true then fr.sealedBy .sealAfter s.tick else dueFrame s fr

/-- The class table names frame `f` as before while `f` is OPEN, and its class's entry is emptied when it is not (R43, R54). -/
def TableAsDue (s t : State) (f : FrameNo) : Prop :=
  ∀ c, t.classFrame c = if (t.frame f).state ≠ .opened ∧ (s.frame f).cls = some c then none else s.classFrame c

/-- Jobs at the tail of the job queue; the first of them becomes current when the queue was empty (R109). -/
def JobsAdded (s t : State) (jobs : List Job) : Prop :=
  t.fill.queue = s.fill.queue ++ jobs ∧
    t.fill.progress = if s.fill.queue = [] then jobs.head?.map fun j => { next := j.start, issued := 0, answered := 0 }
      else s.fill.progress

/-- The lane once its file, entry `e` of frame `f`, is placed: RECEIVING, its timer started (R27). -/
def receivingLane (f : FrameNo) (e : Nat) (now : Tick) (ln : Lane) : Lane :=
  { ln with state := .receiving, held := none, file := some (f, e), extents := [], outstanding := 0
            timer := some { start := now, reported := false }, firstWrite := false, muteMark := false
            voidCause := none, lastWrite := none }

/-- The file of announce `a` of lane `l` has been placed in frame `f`, as R51, R52 and R27 state, between `s` and `t`; the
lane is RECEIVING, and no other lane and no other frame has changed. -/
def PlacedIn (s t : State) (l : LaneNo) (a : Announce) (f : FrameNo) : Prop :=
  (t.frame f).entries = (s.frame f).entries ++ [a.entry l (s.frame f).cursor s.tick] ∧
    (t.frame f).cursor = (s.frame f).cursor + recordSize a.len ∧
    t.fill.queue = s.fill.queue ++ [fileHeadJob l f (s.frame f).entries.length (s.frame f).cursor] ∧
    t.waitList = s.waitList.filter (· != l) ∧
    (t.lane l).state = .receiving ∧ (t.lane l).file = some (f, (s.frame f).entries.length) ∧
    (t.lane l).held = none ∧ (t.lane l).extents = [] ∧ (t.lane l).outstanding = 0 ∧
    (t.lane l).timer = some { start := s.tick, reported := false } ∧ (t.lane l).firstWrite = false ∧
    t.frame f = dueFrame s { s.frame f with
      entries := (s.frame f).entries ++ [a.entry l (s.frame f).cursor s.tick]
      cursor := (s.frame f).cursor + recordSize a.len } ∧
    t.lane l = receivingLane f (s.frame f).entries.length s.tick (s.lane l) ∧ TableAsDue s t f ∧
    JobsAdded s t [fileHeadJob l f (s.frame f).entries.length (s.frame f).cursor] ∧
    (∀ k, k ≠ l → t.lane k = s.lane k) ∧ ∀ g, g ≠ f → t.frame g = s.frame g

/-- The state and the seal cause of frame `f` after a placement that leaves its cursor at `c` and `n` entries in it (R52). -/
def SealedAsDue (s t : State) (f : FrameNo) (c n : Nat) : Prop :=
  if s.items.sealThreshold.toNat < 256 ∧ frameSize s * s.items.sealThreshold.toNat / 256 ≤ c then
    (t.frame f).state = .sealing ∧ (t.frame f).sealCause = some .threshold ∧ (t.frame f).sealTick = some s.tick
  else if n = entryCapacity then
    (t.frame f).state = .sealing ∧ (t.frame f).sealCause = some .entryLimit ∧ (t.frame f).sealTick = some s.tick
  else (t.frame f).state = .opened

/-- The entry of a file of length 0, as R28 leaves it: COMPLETE, and MISMATCH when expected sums other than 0 and 0 were
given. -/
def emptyEntry (l : LaneNo) (a : Announce) (off : Nat) (now : Tick) : Entry :=
  { a.entry l off now with
    state := .complete, endTick := some now, mismatch := a.sumGiven && !(a.expA == 0 && a.expB == 0) }

/-- The lane after a file of length 0, entry `e` at record offset `off` of the pack with this serial: its result and counter,
and IDLE (R28, R35). -/
def afterEmpty (a : Announce) (e off : Nat) (serial : Serial) (ln : Lane) : Lane :=
  let mismatch := a.sumGiven && !(a.expA == 0 && a.expB == 0)
  { ln.pushResult
      { code := if mismatch then .completeMismatch else .complete, placed := true, sumGiven := a.sumGiven
        sealAfter := a.sealAfter, mismatch := mismatch, entry := e, serial := serial, off := off, sumA := 0, sumB := 0
        wtag := a.wtag, len := 0 } with
    completed := ln.completed + 1, state := .idle, held := none, file := none, extents := [], outstanding := 0
    timer := none, firstWrite := false, muteMark := false, voidCause := none, lastWrite := none }

/-- The PAD job of a file of length 0 at record offset `off` (R28). -/
def emptyPad (l : LaneNo) (f : FrameNo) (off : Nat) : Job :=
  { kind := .pad, frame := f, lane := some l, start := off + 64, stop := off + 512, source := .zeros }

/-- The file of announce `a`, of length 0, has been placed in frame `f` and has completed, as R28 and R51 state, between `s`
and `t`; no other lane and no other frame has changed. -/
def EmptyPlacedIn (s t : State) (l : LaneNo) (a : Announce) (f : FrameNo) : Prop :=
  (t.frame f).entries = (s.frame f).entries ++ [emptyEntry l a (s.frame f).cursor s.tick] ∧
    (t.frame f).cursor = (s.frame f).cursor + 512 ∧
    t.fill.queue = s.fill.queue ++
      [fileHeadJob l f (s.frame f).entries.length (s.frame f).cursor, emptyPad l f (s.frame f).cursor] ∧
    t.waitList = s.waitList.filter (· != l) ∧
    t.lane l = afterEmpty a (s.frame f).entries.length (s.frame f).cursor (s.frame f).serial (s.lane l) ∧
    t.frame f = emptyDueFrame s a.sealAfter { s.frame f with
      entries := (s.frame f).entries ++ [emptyEntry l a (s.frame f).cursor s.tick]
      cursor := (s.frame f).cursor + 512 } ∧
    TableAsDue s t f ∧
    JobsAdded s t [fileHeadJob l f (s.frame f).entries.length (s.frame f).cursor, emptyPad l f (s.frame f).cursor] ∧
    (∀ k, k ≠ l → t.lane k = s.lane k) ∧ ∀ g, g ≠ f → t.frame g = s.frame g

/-- The state and the seal cause of frame `f` after the placement and completion of a file of length 0: SEAL_AFTER seals a
frame that the placement's own checks leave OPEN (R52, R28, R76). -/
def EmptySealedAsDue (s t : State) (f : FrameNo) (c n : Nat) (sealAfter : Bool) : Prop :=
  if s.items.sealThreshold.toNat < 256 ∧ frameSize s * s.items.sealThreshold.toNat / 256 ≤ c then
    (t.frame f).state = .sealing ∧ (t.frame f).sealCause = some .threshold ∧ (t.frame f).sealTick = some s.tick
  else if n = entryCapacity then
    (t.frame f).state = .sealing ∧ (t.frame f).sealCause = some .entryLimit ∧ (t.frame f).sealTick = some s.tick
  else if sealAfter = true then
    (t.frame f).state = .sealing ∧ (t.frame f).sealCause = some .sealAfter ∧ (t.frame f).sealTick = some s.tick
  else (t.frame f).state = .opened

/-- Frame `f`, FREE before, has been opened for announce `a` of lane `l`, and the file placed in it as entry 0, as R50, R51,
R52, R27 and R28 state, between `s` and `t`; nothing else but the ports has changed. -/
def OpenedIn (s t : State) (l : LaneNo) (a : Announce) (f : FrameNo) : Prop :=
  let opened (en : Entry) : Frame :=
    { state := .opened, cls := some a.cls, serial := s.nextSerial, cursor := 4096 + recordSize a.len, entries := [en]
      openTick := s.tick, sealCause := none, sealTick := none, imageLength := none, imageFault := false
      sums := { a := 0, b := 0 }, drain := none, stage := .none, ageReported := false }
  (a.len ≠ 0 → t.frame f = dueFrame s (opened (a.entry l 4096 s.tick)) ∧ t.lane l = receivingLane f 0 s.tick (s.lane l) ∧
      JobsAdded s t [packHeadJob f s.nextSerial a.cls s.items.frameSizeCode s.tick, fileHeadJob l f 0 4096]) ∧
    (a.len = 0 → t.frame f = emptyDueFrame s a.sealAfter (opened (emptyEntry l a 4096 s.tick)) ∧
      t.lane l = afterEmpty a 0 4096 s.nextSerial (s.lane l) ∧
      JobsAdded s t
        [packHeadJob f s.nextSerial a.cls s.items.frameSizeCode s.tick, fileHeadJob l f 0 4096, emptyPad l f 4096]) ∧
    t.nextSerial = s.nextSerial + 1 ∧ t.run = { s.run with opened := s.run.opened + 1 } ∧
    (∀ c, t.classFrame c =
      if c = a.cls then (if (t.frame f).state = .opened then some f else none) else s.classFrame c) ∧
    t.waitList = s.waitList.filter (· != l) ∧
    (∀ k, k ≠ l → t.lane k = s.lane k) ∧ (∀ g, g ≠ f → t.frame g = s.frame g) ∧
    { t with port := s.port, lanes := s.lanes, frames := s.frames, classTable := s.classTable, fill := s.fill
             waitList := s.waitList, run := s.run, nextSerial := s.nextSerial } = s

/-- The lowest-numbered FREE frame (R50). -/
def LowestFree (s : State) (g : FrameNo) : Prop :=
  g.val < frameCount s ∧ (s.frame g).state = .free ∧ ∀ k : FrameNo, k.val < g.val → (s.frame k).state ≠ .free

/-- No frame is FREE (R48 step 6). -/
def NoneFree (s : State) : Prop := ∀ g : FrameNo, g.val < frameCount s → (s.frame g).state ≠ .free

/-- A record for length `len` fits frame `f`, with its directory entry (R45). -/
def Fits (s : State) (f : FrameNo) (len : Nat) : Prop :=
  (s.frame f).entries.length + 1 ≤ 2048 ∧
    (s.frame f).cursor + recordSize len + dirSize ((s.frame f).entries.length + 1) ≤ frameSize s

/-- Frame `f`, the OPEN frame of class `c`, has entered SEALING with a cause, as R54 states: its class's entry emptied, and
then the seal unit's examination of it. -/
def SealsWith (cause : SealCause) (c : ClassNo) (f : FrameNo) (s u : State) : Prop :=
  exec (.sealReady f) (setClassFrame c none (modFrame f (Frame.sealedBy cause s.tick) s)) = .next u

/-- Lane `l` has been put on hold with announce `a` and a reason, its wait start now; with NO_FRAME it joins the tail of the
wait list, and FRAME_SHORT is set (R27, R29, R57, R190). -/
def heldOn (l : LaneNo) (a : Announce) (reason : WaitReason) (slot : Nat) (s : State) : State :=
  let waits : State := modLane l (fun ln => { ln with
    state := .waiting
    held := some { ann := a, reason := reason, timer := { start := s.tick, reported := false }, slot := slot }
    file := none, extents := [], outstanding := 0, timer := none, firstWrite := false, muteMark := false
    voidCause := none, lastWrite := none }) s
  if reason = .noFrame then
    { waits with waitList := s.waitList.filter (· != l) ++ [l], attn := { s.attn with frameShort := true } }
  else waits

/-- The write of the announce in record `slot`, with fabric tag `tag`, has been answered OKAY, and nothing else has changed in
the ports (R29). -/
def AnnounceAnswered (s t : State) (slot tag : Nat) : Prop :=
  t.port = { s.port with
    writes := s.port.writes.filter (fun x => x.slot != slot)
    answers := s.port.answers ++ [{ stream := .write, tag := tag, code := .okay, data := [] }] }

/-- Placement has decided on announce `a` of lane `l`, whose write stands in record `slot` with fabric tag `tag`, and the lane
has acted on the outcome, between `s` and `t`: the six steps of R48, with R27, R28, R49 to R53 and R57. -/
def Decided (s t : State) (l : LaneNo) (a : Announce) (slot tag : Nat) : Prop :=
  let jobs := s.laneJobs l + (if a.len = 0 then 2 else 1)
  let opens (u : State) : Prop :=
    (∀ g, LowestFree s g → OpenedIn u t l a g ∧ AnnounceAnswered s t slot tag) ∧
      (NoneFree s → t = heldOn l a .noFrame slot u)
  (2 < jobs → t = heldOn l a .jobLimit slot s) ∧
    (jobs ≤ 2 →
      (s.classFrame a.cls = none → opens s) ∧
      ∀ f, s.classFrame a.cls = some f → (s.frame f).state = .opened → (s.frame f).cls = some a.cls →
        (Fits s f a.len → AnnounceAnswered s t slot tag ∧
          (a.len ≠ 0 → PlacedIn s t l a f) ∧ (a.len = 0 → EmptyPlacedIn s t l a f) ∧
          { t with port := s.port, lanes := s.lanes, frames := s.frames, classTable := s.classTable
                   fill := s.fill, waitList := s.waitList } = s) ∧
        (¬ Fits s f a.len → ∃ u, SealsWith .misfit a.cls f s u ∧ opens u))

/-- A wake pass has visited lane `l`, between `s` and `t` (R59): with a frame FREE, or with the OPEN frame of its class fit for
its announce, the lane has left the wait list and placement has decided on the announce; else it has been passed over. -/
def Visited (l : LaneNo) (s t : State) : Prop :=
  (∀ h, (s.lane l).held = some h → h.reason = .noFrame →
    let served := (∃ g, LowestFree s g) ∨
      ∃ f, s.classFrame h.ann.cls = some f ∧ (s.frame f).state = .opened ∧ Fits s f h.ann.len
    (served → ∀ r, s.findRecord .write h.slot = some r →
      Decided { s with waitList := s.waitList.filter (· != l) } t l h.ann h.slot r.tag) ∧
    (¬ served → t = s)) ∧
  ((∀ h, (s.lane l).held = some h → h.reason ≠ .noFrame) → t = s)

/-- A wake pass over the lanes of a list, one visit after the other (R59). -/
def WakePass : List LaneNo → State → State → Prop
  | [], s, t => t = s
  | l :: rest, s, t => ∃ u, Visited l s u ∧ WakePass rest u t

/-! ## Voids and stops -/

/-- The held-back answer of lane `l`'s written file given OKAY, if there is one, and nothing else (R77). -/
def lastAnswered (l : LaneNo) (s : State) : State :=
  match (s.lane l).lastWrite.bind (s.findRecord .write) with
  | none => s
  | some r =>
    { s with port := { s.port with
        writes := s.port.writes.filter (fun x => x.slot != r.slot)
        answers := s.port.answers ++ [{ stream := .write, tag := r.tag, code := .okay, data := [] }] } }

/-- A void of lane `l`'s file begun with a cause, as R77 states, and nothing else. -/
def voidBegun (l : LaneNo) (cause : VoidCause) (s : State) : State :=
  modLane l (fun ln => { ln with
      state := .voiding, voidCause := some cause, timer := none, held := none, muteMark := false, lastWrite := none })
    (match (s.lane l).file with
      | some (f, e) =>
        modEntry f e (fun en => if en.state = .placed then { en with state := .voiding } else en) (lastAnswered l s)
      | none => lastAnswered l s)

/-- The result of a void of entry `e` of a frame with this pack serial (R35). -/
def voidResult (code : ResultCode) (e : Nat) (en : Entry) (serial : Serial) : Result :=
  { code := code, placed := true, sumGiven := en.sumGiven, sealAfter := en.sealAfter, mismatch := false, entry := e
    serial := serial, off := en.off, sumA := 0, sumB := 0, wtag := en.wtag, len := BitVec.ofNat 64 en.len }

/-- What a stop does to a lane: a held announce is refused with REFUSED_STOPPING and counted, a WAITING lane enters MUTED, a
VOIDING one sets its mute mark; any other lane stays (R32, R175). -/
def stoppedLane (ln : Lane) : Lane :=
  match ln.held with
  | none => ln
  | some h =>
    { ln.pushResult
        { code := .refusedStopping, placed := false, sumGiven := h.ann.sumGiven, sealAfter := h.ann.sealAfter
          mismatch := false, entry := 0, serial := 0, off := 0, sumA := 0, sumB := 0, wtag := h.ann.wtag
          len := BitVec.ofNat 64 h.ann.len } with
      refusedAnn := ln.refusedAnn + 1, held := none, state := if ln.state = .waiting then .muted else ln.state
      muteMark := decide (ln.state ≠ .waiting) }

/-- Frame `f` is ready as soon as it seals: no entry PLACED or VOIDING, and no job into it (R125). -/
def readyAtOnce (s : State) (f : FrameNo) : Prop :=
  (∀ en ∈ (s.frame f).entries, en.state ≠ .placed ∧ en.state ≠ .voiding) ∧ ∀ j ∈ s.fill.queue, j.frame ≠ f

/-- image_length of frame `f` as its cursor and entry count give it (R44). -/
def lengthOf (s : State) (f : FrameNo) : Nat :=
  (s.frame f).cursor + (64 * ((s.frame f).entries.length + 1) + 511) / 512 * 512

/-- STOP or HALT has begun, between `s` and `u`, as R175 and the first sentence of R176 state: STOPPING, BUSY with the action;
every OPEN frame SEALING with the cause, and WRITING its directory at once when it is ready; every held announce refused; and
nothing else. The ascending order of the directory jobs is the model's choice (log 20). -/
def StopBegun (a : Action) (cause : SealCause) (s u : State) : Prop :=
  u.run = { s.run with global := .stopping, running := some a } ∧
    (∀ c, u.classFrame c = none) ∧ u.waitList = [] ∧ (∀ l, u.lane l = stoppedLane (s.lane l)) ∧
    (∀ f, (s.frame f).state ≠ .opened → u.frame f = s.frame f) ∧
    (∀ f, (s.frame f).state = .opened → readyAtOnce s f → u.frame f = { s.frame f with
      state := .sealing, sealCause := some cause, sealTick := some s.tick, ageReported := false
      stage := .writing, imageLength := some (lengthOf s f) }) ∧
    (∀ f, (s.frame f).state = .opened → ¬ readyAtOnce s f → u.frame f = { s.frame f with
      state := .sealing, sealCause := some cause, sealTick := some s.tick, ageReported := false, stage := .gathering }) ∧
    (∃ fs : List FrameNo, fs.Pairwise (· < ·) ∧ (∀ f, f ∈ fs ↔ (s.frame f).state = .opened ∧ readyAtOnce s f) ∧
      u.fill.queue = s.fill.queue ++ fs.map fun f =>
        { kind := .directory, frame := f, lane := none, start := (s.frame f).cursor, stop := lengthOf s f
          source := .directory (s.frame f).cursor (s.frame f).entries.length (lengthOf s f) (s.frame f).serial }) ∧
    (∀ l h r, (s.lane l).held = some h → s.findRecord .write h.slot = some r →
      ({ stream := .write, tag := r.tag, code := .refused, data := [] } : FabricAnswer) ∈ u.port.answers ∧
        u.findRecord .write h.slot = none) ∧
    ((∀ l, (s.lane l).held = none) → u.port = s.port) ∧
    u.attn = { s.attn with laneErr := s.attn.laneErr || decide (∃ l, (s.lane l).held ≠ none) } ∧
    { u with run := s.run, lanes := s.lanes, frames := s.frames, classTable := s.classTable, waitList := s.waitList
             fill := s.fill, port := s.port, attn := s.attn } = s

/-- The voids of HALT, between `u` and `v`, as R176 states: the file of every RECEIVING lane is voided with cause HALT, a
written one's held-back answer given OKAY; a void that may end at once has ended, with its result VOID_HALT, the entry VOID,
and the share withdrawn; any other leaves its lane VOIDING. Every other lane, entry and frame field stays. The ascending order of the VOID_FILL jobs, and
that they stand after the directory jobs, are the model's choice (log 20). -/
def HaltVoids (u v : State) : Prop :=
  let ends (l : LaneNo) : Prop := (u.lane l).state = .receiving ∧ (u.lane l).outstanding = 0 ∧ u.laneJobs l ≤ 1
  (∀ l, (u.lane l).state ≠ .receiving → v.lane l = u.lane l) ∧
    (∀ l, (u.lane l).state = .receiving → ¬ ends l → v.lane l = { u.lane l with
      state := .voiding, voidCause := some .halt, timer := none, held := none, muteMark := false, lastWrite := none }) ∧
    (∀ l f e en, (u.lane l).file = some (f, e) → u.entry? f e = some en → ends l →
      v.lane l = { (u.lane l).pushResult (voidResult .voidHalt e en (u.frame f).serial) with
        voided := (u.lane l).voided + 1, state := .idle, held := none, file := none, extents := [], outstanding := 0
        timer := none, firstWrite := false, muteMark := false, voidCause := none, lastWrite := none }) ∧
    (∀ l f e en, (u.lane l).state = .receiving → (u.lane l).file = some (f, e) → u.entry? f e = some en →
      en.state = .placed → (∀ k, k ≠ l → (u.lane k).file ≠ some (f, e)) →
        (¬ ends l → v.entry? f e = some { en with state := .voiding }) ∧
        (ends l → v.entry? f e = some { en with
          state := .void, endTick := some u.tick
          received := ((u.lane l).extents.map fun x => x.stop - x.start).sum })) ∧
    (∀ f e, (∀ l, (u.lane l).state = .receiving → (u.lane l).file ≠ some (f, e)) → v.entry? f e = u.entry? f e) ∧
    (∀ f, { v.frame f with entries := (u.frame f).entries, sums := (u.frame f).sums } = u.frame f ∧
      (v.frame f).entries.length = (u.frame f).entries.length) ∧
    (∃ ls : List LaneNo, ls.Pairwise (· < ·) ∧ (∀ l, l ∈ ls ↔ ends l ∧ (u.currentFile l).isSome = true) ∧
      v.fill.queue = u.fill.queue ++ (ls.filterMap fun l => (u.currentFile l).map fun x =>
        { kind := .voidFill, frame := x.1, lane := some l, start := x.2.2.off + 64
          stop := x.2.2.off + recordSize x.2.2.len, source := .zeros }) ∧
      (∀ f, (v.frame f).sums = ((ls.filterMap u.currentFile).filter fun x => x.1 == f).foldl
        (fun y x => y.withdraw x.2.2.sums ((x.2.2.off + 64) / 4)) (u.frame f).sums) ∧
      v.attn = { u.attn with laneErr := u.attn.laneErr || !ls.isEmpty }) ∧
    (∀ l slot r, (u.lane l).state = .receiving → (u.lane l).lastWrite = some slot → u.findRecord .write slot = some r →
      ({ stream := .write, tag := r.tag, code := .okay, data := [] } : FabricAnswer) ∈ v.port.answers ∧
        v.findRecord .write slot = none) ∧
    ((∀ l, (u.lane l).state = .receiving → (u.lane l).lastWrite = none) → v.port = u.port) ∧
    { v with port := u.port, lanes := u.lanes, frames := u.frames, fill := u.fill, attn := u.attn } = u

end Sys2Proof.Machine
end

