-- ==== Sys2Proof/Certificates/Slice0/Obligations.lean ====
section
/-! DEFINITION. The statements about the part, one definition each, in the order of OBLIGATIONS.json.

What the model fixes beside the spec, and these statements speak of: the answers given stand in the model's own record of
them (log 10); the numbers of open requests and the buffer tags are the smallest unused ones (log 6); an event that a rule
lets follow in the same step does follow in it (log 1); and a command that is not enabled leaves the state as it is
(log 2). -/

open Sys2Proof Sys2Proof.Machine Sys2Proof.Config

/-! ## The queue of commands -/

/-- A step takes the command at the front of the queue and runs it with the queue's rest left waiting. -/
def Obligations.StepTakesFront : Prop :=
  ∀ (c : Instr) (rest : List Instr) (s : State), s.pending = c :: rest → step s = exec c { s with pending := rest }

/-! ## Fabric and buffer ports -/

/-- R5, R6: the region, the lane or frame number and the offset of a request that passes the shape check; in CONFIG every
request is plain. -/
def Obligations.RoutePlacesAddresses : Prop :=
  ∀ (s : State) (a : Addr) (n : Nat),
    (s.run.global = .config → route s a n = .plain) ∧
    (s.run.global ≠ .config → shapeFails a n = false →
      (∀ (l : LaneNo) (off : Nat), off < frameSize s →
        (a - apertureBase s).toNat = l.val * frameSize s + off → route s a n = .aperture l off) ∧
      (16 * frameSize s ≤ (a - apertureBase s).toNat →
        (∀ (f : FrameNo) (off : Nat), off < frameSize s → f.val < frameCount s →
          (a - frameBase s).toNat = f.val * frameSize s + off → route s a n = .frame f off) ∧
        (frameCount s * frameSize s ≤ (a - frameBase s).toNat → route s a n = .plain)))

/-- R10, R14: a plain request is forwarded as it is taken, with its address, length, data and strobes. -/
def Obligations.PlainRequestForwarded : Prop :=
  ∀ s : State, s.resetLow = false →
    (∀ (src : WriteSource) (w : WriteReq), src.wf = true → writeAt s src = some w →
      PlainClass s w.addr w.bytes.length → s.port.writes.length < listCapacity →
      exec (.plainRequest (.write src)) s =
        .next (forwarding .write w.tag .plain .plain (w.bytes.length / 8) { addr := w.addr, body := .write w.bytes }
          (afterLeaving src s))) ∧
    (∀ r : ReadReq, r.wf = true → PlainClass s r.addr (8 * r.beats) → s.port.reads.length < listCapacity →
      exec (.plainRequest (.read r)) s =
        .next (forwarding .read r.tag .plain .plain r.beats { addr := r.addr, body := .read r.beats } s))

/-- R13, R14: the buffer's answer to a plain request goes to the fabric with the buffer's code, the request's own tag and the
data exactly as the controller returned them, and nothing else changes. -/
def Obligations.PlainBufferAnswerPassed : Prop :=
  ∀ (s : State) (btag : Nat) (st : Stream) (r : OpenReq) (a : BufAnswer),
    Answers s btag st r a.data → r.origin = .plain → s.run.running ≠ some .resetCore →
      exec (.plainBufferAnswer btag a) s =
        .next (settling btag st r (match a.code with | .okay => .okay | .fault => .fault) a.data s)

/-- R6, R7: a request that fails the shape check and touches a region is answered REFUSED, a read with as many zero beats as it
asked for, and so is every write of frame class; nothing else changes. -/
def Obligations.PortRefusals : Prop :=
  ∀ s : State, s.resetLow = false → s.run.global ≠ .config →
    (∀ (src : WriteSource) (w : WriteReq), src.wf = true → writeAt s src = some w →
      s.port.writes.length < listCapacity → shapeFails w.addr w.bytes.length = true →
      touchesRegions s w.addr w.bytes.length = true →
      exec (.shapeCheckRefusal (.write src)) s = .next (answering .write w.tag .refused [] (afterLeaving src s))) ∧
    (∀ r : ReadReq, r.wf = true → s.port.reads.length < listCapacity → shapeFails r.addr (8 * r.beats) = true →
      touchesRegions s r.addr (8 * r.beats) = true →
      exec (.shapeCheckRefusal (.read r)) s =
        .next (answering .read r.tag .refused (List.replicate (8 * r.beats) 0) s)) ∧
    (∀ (src : WriteSource) (w : WriteReq) (f : FrameNo) (off : Nat), src.wf = true → writeAt s src = some w →
      s.port.writes.length < listCapacity → routeWrite s w = .frame f off →
      exec (.frameRegionWrite src) s = .next (answering .write w.tag .refused [] (afterLeaving src s)))

/-- R9, R12, R17, R113, R118: the arbiter grants the only ready side, or the side that the last grant does not name; the request
goes out with a tag that no outstanding request carries and no late answer will; which such tag is the model's choice (log 6).
The fill side is ready while a byte of the current job is not offered, but a DIRECTORY job's trailer waits for the answers to
every burst before it. -/
def Obligations.ArbiterGrants : Prop :=
  ∀ s : State, s.resetLow = false →
    (s.port.passQ = [] → fillReady s = false → exec .arbiterGrant s = .next s) ∧
    (∀ (e : PassEntry) (rest : List PassEntry), s.port.passQ = e :: rest →
      (fillReady s = false ∨ s.port.lastGrant = .fill) →
      exec .arbiterGrant s =
        .next { s with port := { s.port with
          passQ := rest, lastGrant := .passThrough
          outstanding := s.port.outstanding ++
            [{ btag := s.freshBtag, origin := .fabric e.stream e.slot, req := e.req }] } }) ∧
    (∀ (j : Job) (later : List Job) (p : Progress), s.fill.queue = j :: later → s.fill.progress = some p →
      fillReady s = true → (s.port.passQ = [] ∨ s.port.lastGrant = .passThrough) →
      exec .arbiterGrant s =
        .next { s with
          port := { s.port with
            lastGrant := .fill
            outstanding := s.port.outstanding ++
              [{ btag := s.freshBtag, origin := .burst j.kind j.frame (p.next / 8 * 8), req := burstReq s j p.next }] }
          fill := { s.fill with progress := some { p with next := j.burstEnd p.next, issued := p.issued + 1 } } }) ∧
    (∀ (j : Job) (later : List Job) (p : Progress), s.fill.queue = j :: later → s.fill.progress = some p →
      (fillReady s = true ↔
        p.next < j.stop ∧ (j.kind = .directory → j.stop - 64 ≤ p.next → p.answered = p.issued))) ∧
    ((s.fill.queue = [] ∨ s.fill.progress = none) → fillReady s = false) ∧
    (∀ o ∈ s.port.outstanding, o.btag ≠ s.freshBtag) ∧ s.freshBtag ∉ s.port.late

/-- R15, R112, R102, R103, R116 to R118, R195, R198 to R201: a burst of a job stays in one aligned 128-byte block, in the job's
range and in one phase of a DIRECTORY job, moves 1 to 16 whole beats from the beat of its first byte, and has a strobe set for
exactly the bytes of its range; it goes to that beat's address in the frame. Its bytes are those of the pack head, the file
head, the directory entries and the trailer, field by field, and zeros beyond them, in a pad and in a void's fill. -/
def Obligations.BurstsStayInTheirBlock : Prop :=
  (∀ (s : State) (j : Job) (p : Nat), p < j.stop →
    (j.kind = .directory → p < j.stop - 64 → j.burstEnd p ≤ j.stop - 64) ∧
    p < j.burstEnd p ∧ j.burstEnd p ≤ j.stop ∧ j.burstEnd p ≤ (p / 128 + 1) * 128 ∧
      (burstBytes s j p (j.burstEnd p)).length % 8 = 0 ∧ 8 ≤ (burstBytes s j p (j.burstEnd p)).length ∧
      (burstBytes s j p (j.burstEnd p)).length ≤ 128 ∧
      (∀ i, i < (burstBytes s j p (j.burstEnd p)).length →
        ((burstBytes s j p (j.burstEnd p))[i]?.any Option.isSome = true ↔
          p ≤ p / 8 * 8 + i ∧ p / 8 * 8 + i < j.burstEnd p)) ∧
      burstReq s j p =
        { addr := frameBase s + BitVec.ofNat 48 (j.frame.val * frameSize s + p / 8 * 8)
          body := .write (burstBytes s j p (j.burstEnd p)) } ∧
      ∀ q, p ≤ q → q < j.burstEnd p →
        (burstBytes s j p (j.burstEnd p))[q - p / 8 * 8]? = some (some (jobByte s j q))) ∧
  (∀ (s : State) (j : Job), j.source = .zeros → ∀ q, jobByte s j q = 0) ∧
  (∀ (s : State) (j : Job) (serial : Serial) (c : ClassNo) (code : Word) (now : Tick), j.source = .packHead serial c code now →
    ∃ rec : List Byte, rec.length = 64 ∧ (∀ i, jobByte s j (j.start + i) = rec.getD i 0) ∧
      leField 0 4 rec = 0x6E21A0D7 ∧ leField 4 1 rec = 1 ∧ leField 5 1 rec = j.frame.val ∧
      leField 6 1 rec = code.toNat % 256 ∧ leField 7 1 rec = c.val ∧ leField 8 6 rec = serial.toNat ∧
      leField 14 2 rec = 0 ∧ leField 16 4 rec = now.toNat ∧ leField 20 44 rec = 0) ∧
  (∀ (s : State) (j : Job) (e : Nat) (en : Entry), j.source = .fileHead e → s.entry? j.frame e = some en →
    ∃ rec : List Byte, rec.length = 64 ∧ (∀ i, jobByte s j (j.start + i) = rec.getD i 0) ∧
      leField 0 2 rec = e % 65536 ∧
      leField 2 1 rec = en.lane.val + 16 * en.cls.val + 64 * en.sumGiven.toNat + 128 * en.sealAfter.toNat ∧
      leField 3 3 rec = en.off / 512 % 16777216 ∧ leField 6 2 rec = (s.frame j.frame).serial.toNat % 65536 ∧
      leField 8 4 rec = en.len % 4294967296 ∧ leField 12 4 rec = en.arrival.toNat ∧
      leField 16 4 rec = (match en.expected with | some x => x.1.toNat | none => 0) ∧
      leField 20 4 rec = (match en.expected with | some x => x.2.toNat | none => 0) ∧
      leField 24 8 rec = en.wtag.toNat ∧ leField 32 32 rec = en.digest.toNat) ∧
  (∀ (s : State) (j : Job) (cursor n il : Nat) (serial : Serial), j.source = .directory cursor n il serial →
    (∀ i en, i < n → s.entry? j.frame i = some en → cursor + 64 * i + 64 ≤ il - 64 →
      ∃ rec : List Byte, rec.length = 64 ∧ (∀ k, k < 64 → jobByte s j (cursor + 64 * i + k) = rec.getD k 0) ∧
        leField 0 1 rec = (match en.state with | .placed => 1 | .voiding => 2 | .complete => 3 | .void => 4) ∧
        leField 1 1 rec = en.sumGiven.toNat + 2 * en.sealAfter.toNat + 4 * en.mismatch.toNat ∧
        leField 2 1 rec = en.cls.val ∧ leField 3 1 rec = en.lane.val ∧ leField 4 4 rec = en.off % 4294967296 ∧
        leField 8 4 rec = en.len % 4294967296 ∧ leField 12 4 rec = en.received % 4294967296 ∧
        leField 16 4 rec = (if en.state = .void then 0 else en.sums.a % 4294967296) ∧
        leField 20 4 rec = (if en.state = .void then 0 else en.sums.b % 4294967296) ∧
        leField 24 4 rec = en.arrival.toNat ∧
        leField 28 4 rec = (match en.endTick with | some x => x.toNat | none => 0) ∧
        leField 32 8 rec = en.wtag.toNat ∧ leField 40 16 rec = en.digest.toNat % 2 ^ 128 ∧ leField 56 8 rec = 0) ∧
    (∀ q, cursor + 64 * n ≤ q → q < il - 64 → jobByte s j q = 0) ∧
    ∃ rec : List Byte, rec.length = 64 ∧ (∀ k, k < 64 → jobByte s j (il - 64 + k) = rec.getD k 0) ∧
      leField 0 4 rec = 0x6E21A0E9 ∧ leField 4 6 rec = serial.toNat ∧ leField 10 2 rec = n % 65536 ∧
      leField 12 4 rec = cursor % 4294967296 ∧ leField 16 4 rec = il % 4294967296 ∧
      leField 20 4 rec = (s.frame j.frame).sums.a % 4294967296 ∧
      leField 24 4 rec = (s.frame j.frame).sums.b % 4294967296 ∧ leField 28 36 rec = 0)

/-- R16, R17, R121: after a core reset the buffer's answer to a request forwarded before it goes to the fabric with the buffer's
code and data, and nothing else changes while the core is not clear; the beats that the controller was never asked for are free
(log 7). An answer to a request issued before a hard reset, or to a fill burst issued before a core reset, is discarded. -/
def Obligations.AnswersAfterResets : Prop :=
  ∀ (s : State) (btag : Nat),
    (∀ (st : Stream) (r : OpenReq) (a : BufAnswer), Answers s btag st r a.data → r.preReset = true →
      ∃ (t : State) (extra : List Byte),
        exec (.passThroughAfterCoreReset btag a) s = .next t ∧
        extra.length = (match st with | .write => 0 | .read => 8 * r.beats - a.data.length) ∧
        exec .coreClear { settling btag st r (match a.code with | .okay => .okay | .fault => .fault) (a.data ++ extra) s
          with free := s.free + extra.length } = .next t) ∧
    (s.resetLow = false → btag ∈ s.port.late →
      exec (.lateAnswerDiscard btag) s =
        .next { s with port := { s.port with late := s.port.late.filter (· != btag) } }) ∧
    (∀ o, s.resetLow = false → btag ∉ s.port.late → s.findOutstanding btag = some o → o.origin = .dropped →
      ∃ t, exec (.lateAnswerDiscard btag) s = .next t ∧
        exec .coreClear { s with port := { s.port with
          outstanding := s.port.outstanding.filter (fun x => x.btag != btag) } } = .next t)

/-! ## Lanes and announces -/

/-- R21: a control-area write is answered REFUSED and counted, in every lane state in which it is taken, and nothing else
changes: no lane state, no file, no result. -/
def Obligations.ControlAreaWriteRefused : Prop :=
  ∀ (s : State) (src : WriteSource) (l : LaneNo) (off : Nat) (w : WriteReq),
    LaneTakesWrite s src l off w → laneWriteKind off w.bytes = .controlArea →
      exec (.controlAreaWrite src) s =
        .next (modLane l (fun ln => { ln with refusedWr := ln.refusedWr + 1 })
          (answering .write w.tag .refused [] (afterLeaving src s)))

/-- R24: an announce is valid exactly when its marker and version are right, the part is RUNNING, its class is one of 0 to 3 and
enabled, its length is below 2^40 and its record fits an empty pack; else the first test that fails gives the code. -/
def Obligations.AnnounceTests : Prop :=
  ∀ (s : State) (a : RawAnnounce),
    let t1 := a.marker = announceMarker ∧ a.version = announceVersion
    let t2 := s.run.global = .running
    let t3 := a.cls.toNat ≤ 3 ∧ s.items.classEnable.getLsbD a.cls.toNat = true
    let t4 := a.len.toNat < 2 ^ 40 ∧ 4096 + (64 + a.len.toNat + 511) / 512 * 512 + 512 ≤ frameSize s
    (t1 ∧ t2 ∧ t3 ∧ t4 ↔ validateAnnounce s a = none) ∧
      (¬ t1 → validateAnnounce s a = some .refusedMalformed) ∧
      (t1 → ¬ t2 → validateAnnounce s a = some .refusedStopping) ∧
      (t1 → t2 → ¬ t3 → validateAnnounce s a = some .refusedClass) ∧
      (t1 → t2 → t3 → ¬ t4 → validateAnnounce s a = some .refusedOversize)

/-- R25, R35, R36, R77: a refused announce is answered REFUSED, its result is appended with the fields as written, it is
counted, and LANE_ERR is raised. An IDLE or MUTED lane enters MUTED. A RECEIVING one begins the void of its file with cause
SUPERSEDED, its mute mark set, and the void ends when it may; a VOIDING one sets its mute mark. Nothing else changes. A result
appended to a full queue first drops the oldest, counted up to 255. -/
def Obligations.AnnounceRefused : Prop :=
  (∀ (s : State) (src : WriteSource) (l : LaneNo) (w : WriteReq) (code : ResultCode),
    LaneTakesWrite s src l 0 w → laneWriteKind 0 w.bytes = .announce →
    validateAnnounce s (parseAnnounce (w.bytes.filterMap id)) = some code →
    let refused : State := modAttn (fun a => { a with laneErr := true })
      (modLane l (fun ln =>
        { ln.pushResult
            { code := code, placed := false
              sumGiven := (parseAnnounce (w.bytes.filterMap id)).flags.getLsbD 0
              sealAfter := (parseAnnounce (w.bytes.filterMap id)).flags.getLsbD 1
              mismatch := false, entry := 0, serial := 0, off := 0, sumA := 0, sumB := 0
              wtag := (parseAnnounce (w.bytes.filterMap id)).wtag
              len := (parseAnnounce (w.bytes.filterMap id)).len }
          with refusedAnn := ln.refusedAnn + 1 })
        (answering .write w.tag .refused [] (afterLeaving src s)))
    (((s.lane l).state = .idle ∨ (s.lane l).state = .muted) → stopIsOver s = false →
      exec (.announce src) s =
        .next (modLane l (fun ln => { ln with state := .muted, muteMark := false }) refused)) ∧
    ((s.lane l).state = .receiving →
      ∃ t, exec (.announce src) s = .next t ∧
        exec (.voidEnd l) (modLane l (fun ln => { ln with muteMark := true }) (voidBegun l .superseded refused)) =
          .next t) ∧
    ((s.lane l).state = .voiding →
      exec (.announce src) s = .next (modLane l (fun ln => { ln with muteMark := true }) refused))) ∧
  (∀ (ln : Lane) (r : Result),
    (ln.results.length < 4 → ln.pushResult r = { ln with results := ln.results ++ [r] }) ∧
    (4 ≤ ln.results.length → ln.pushResult r = { ln with
      results := ln.results.tail ++ [r], dropped := if ln.dropped = 255 then 255 else ln.dropped + 1 }))

/-- R26, R29, R77: a valid announce taken by a RECEIVING lane begins the void of its file with cause SUPERSEDED, the held-back
answer of a written file given OKAY, and is held with reason VOIDING; the void's end follows in the same step when it may. One
taken by a VOIDING lane is held with reason VOIDING, the mute mark cleared. Nothing else changes. The number of the held write's
record is the model's choice (log 6). -/
def Obligations.AnnounceSupersedes : Prop :=
  ∀ (s : State) (src : WriteSource) (l : LaneNo) (w : WriteReq),
    LaneTakesWrite s src l 0 w → laneWriteKind 0 w.bytes = .announce →
    validateAnnounce s (parseAnnounce (w.bytes.filterMap id)) = none →
    let taken : State := addRecord .write
      { slot := (afterLeaving src s).freshSlot .write, tag := w.tag, cls := .aperture l, origin := .heldAnnounce l
        stage := .held, beats := 8, preReset := false } (afterLeaving src s)
    let holding (u : State) : State := modLane l (fun ln => { ln with
      muteMark := false
      held := some { ann := (parseAnnounce (w.bytes.filterMap id)).valid, reason := .voiding
                     timer := { start := s.tick, reported := false }
                     slot := (afterLeaving src s).freshSlot .write } }) u
    ((s.lane l).state = .receiving →
      ∃ t, exec (.announce src) s = .next t ∧
        exec (.voidEnd l) (holding (voidBegun l .superseded taken)) = .next t) ∧
    ((s.lane l).state = .voiding → exec (.announce src) s = .next (holding taken))

/-- R26 to R28, R48 step 3, R51, R52: a valid announce, taken by an IDLE or MUTED lane whose job test passes, is placed in the
class's OPEN frame when it fits, and its write is answered OKAY: entry, cursor and FILE_HEAD job, and the frame sealed by
THRESHOLD or ENTRY_LIMIT as its new cursor and count require. With a length above 0 the lane is RECEIVING; with length 0 the
file completes in the same step: COMPLETE with sums 0, its PAD job, its result and counter, the lane IDLE, and SEAL_AFTER acts.
-/
def Obligations.AnnouncePlaced : Prop :=
  ∀ (s : State) (src : WriteSource) (l : LaneNo) (w : WriteReq) (a : Announce) (f : FrameNo),
    LaneTakesWrite s src l 0 w → laneWriteKind 0 w.bytes = .announce →
    validateAnnounce s (parseAnnounce (w.bytes.filterMap id)) = none →
    a = (parseAnnounce (w.bytes.filterMap id)).valid →
    ((s.lane l).state = .idle ∨ (s.lane l).state = .muted) → s.laneJobs l + (if a.len = 0 then 2 else 1) ≤ 2 →
    s.classFrame a.cls = some f → (s.frame f).state = .opened →
    (s.frame f).entries.length + 1 ≤ 2048 →
    (s.frame f).cursor + recordSize a.len + dirSize ((s.frame f).entries.length + 1) ≤ frameSize s →
      ∃ t, exec (.announce src) s = .next t ∧
        (a.len ≠ 0 → PlacedIn s t l a f ∧
          SealedAsDue s t f ((s.frame f).cursor + recordSize a.len) ((s.frame f).entries.length + 1)) ∧
        (a.len = 0 → EmptyPlacedIn s t l a f ∧
          EmptySealedAsDue s t f ((s.frame f).cursor + 512) ((s.frame f).entries.length + 1) a.sealAfter) ∧
        t.port = (answering .write w.tag .okay [] (afterLeaving src s)).port ∧
        { t with port := s.port, lanes := s.lanes, frames := s.frames, classTable := s.classTable
                 fill := s.fill, waitList := s.waitList } = s

/-- R48 step 5, R50, R51, R28: with no OPEN frame of its class, a valid announce opens the lowest-numbered FREE frame and is
placed in it at frame offset 4,096 as entry 0: serial, class, open tick, pack sums (0, 0), class table, PACK_HEAD before
FILE_HEAD. A file of length 0 completes there in the same step. -/
def Obligations.AnnounceOpensFrame : Prop :=
  ∀ (s : State) (src : WriteSource) (l : LaneNo) (w : WriteReq) (a : Announce) (f : FrameNo),
    LaneTakesWrite s src l 0 w → laneWriteKind 0 w.bytes = .announce →
    validateAnnounce s (parseAnnounce (w.bytes.filterMap id)) = none →
    a = (parseAnnounce (w.bytes.filterMap id)).valid →
    ((s.lane l).state = .idle ∨ (s.lane l).state = .muted) → s.laneJobs l + (if a.len = 0 then 2 else 1) ≤ 2 →
    s.classFrame a.cls = none → f.val < frameCount s → (s.frame f).state = .free →
    (∀ g : FrameNo, g.val < f.val → (s.frame g).state ≠ .free) →
      ∃ t, exec (.announce src) s = .next t ∧ OpenedIn s t l a f ∧
        t.port = (answering .write w.tag .okay [] (afterLeaving src s)).port

/-- R27, R29, R48 steps 1 and 6, R57: a valid announce whose job test fails is held with reason JOB_LIMIT, and one that finds no
OPEN frame of its class and no FREE frame with reason NO_FRAME, at the tail of the wait list with FRAME_SHORT set; its write
stays unanswered at stage held, under a number that is the model's choice (log 6), and no frame changes. -/
def Obligations.AnnounceHeld : Prop :=
  ∀ (s : State) (src : WriteSource) (l : LaneNo) (w : WriteReq) (a : Announce),
    LaneTakesWrite s src l 0 w → laneWriteKind 0 w.bytes = .announce →
    validateAnnounce s (parseAnnounce (w.bytes.filterMap id)) = none →
    a = (parseAnnounce (w.bytes.filterMap id)).valid →
    ((s.lane l).state = .idle ∨ (s.lane l).state = .muted) → ∀ reason : WaitReason,
    ((2 < s.laneJobs l + (if a.len = 0 then 2 else 1) ∧ reason = .jobLimit) ∨
      (s.laneJobs l + (if a.len = 0 then 2 else 1) ≤ 2 ∧ s.classFrame a.cls = none ∧
        (∀ f : FrameNo, f.val < frameCount s → (s.frame f).state ≠ .free) ∧ reason = .noFrame)) →
      ∃ t, exec (.announce src) s = .next t ∧
        t.port = (addRecord .write
          { slot := (afterLeaving src s).freshSlot .write, tag := w.tag, cls := .aperture l, origin := .heldAnnounce l
            stage := .held, beats := 8, preReset := false } (afterLeaving src s)).port ∧
        (t.lane l).state = .waiting ∧
        (t.lane l).held = some { ann := a, reason := reason, timer := { start := s.tick, reported := false }
                                 slot := (afterLeaving src s).freshSlot .write } ∧
        (∀ k, k ≠ l → t.lane k = s.lane k) ∧
        (reason = .jobLimit → t.waitList = s.waitList ∧ t.attn = s.attn) ∧
        (reason = .noFrame → t.waitList = s.waitList.filter (· != l) ++ [l] ∧
          t.attn = { s.attn with frameShort := true }) ∧
        { t with port := s.port, lanes := s.lanes, waitList := s.waitList, attn := s.attn } = s

/-- R37, R38, R23, R195, R197: a status read is answered OKAY with the beats of the lane status record that its span covers, in
every lane state, and the oldest result leaves the queue exactly when the span covers aperture offsets 56 to 63. The record
holds the lane's fields and those of its oldest result at their places, and zeros for an empty queue. -/
def Obligations.StatusReadAnswered : Prop :=
  (∀ (s : State) (r : ReadReq) (l : LaneNo) (off : Nat), LaneTakesRead s r l off → off + 8 * r.beats ≤ 64 →
    exec (.statusRead r) s =
      .next (modLane l (fun ln => if 56 < off + 8 * r.beats then { ln with results := ln.results.tail } else ln)
        (answering .read r.tag .okay (((statusRecord s l).drop off).take (8 * r.beats)) s))) ∧
  ∀ (s : State) (l : LaneNo),
    let record := statusRecord s l
    let ln := s.lane l
    record.length = 64 ∧
      leField 0 1 record =
        (match ln.state with | .idle => 0 | .waiting => 1 | .receiving => 2 | .voiding => 3 | .muted => 4) ∧
      leField 1 1 record = (match ln.held.map (·.reason) with
        | none => 0 | some .noFrame => 1 | some .jobLimit => 2 | some .voiding => 3) ∧
      leField 2 1 record = ln.extents.length % 256 ∧ leField 3 1 record = ln.results.length % 256 ∧
      leField 4 1 record = ln.dropped.toNat ∧ leField 5 3 record = 0 ∧
      (∀ f e en, ln.file = some (f, e) → s.entry? f e = some en →
        leField 8 4 record = en.off % 4294967296 ∧ leField 12 4 record = en.len % 4294967296) ∧
      (ln.file = none → leField 8 4 record = 0 ∧
        leField 12 4 record = (match ln.held with | some h => h.ann.len % 4294967296 | none => 0)) ∧
      leField 16 4 record = (ln.extents.map fun x => x.stop - x.start).sum % 4294967296 ∧ leField 20 4 record = 0 ∧
      (ln.results = [] → ∀ i, 24 ≤ i → i < 64 → record[i]? = some 0) ∧
      ∀ x rest, ln.results = x :: rest →
        leField 24 1 record = (match x.code with
          | .complete => 1 | .completeMismatch => 2 | .voidTimeout => 3 | .voidSuperseded => 4 | .voidMemfault => 5
          | .voidHalt => 6 | .refusedMalformed => 7 | .refusedClass => 8 | .refusedOversize => 9 | .refusedHold => 10
          | .refusedStopping => 11) ∧
        leField 25 1 record =
          x.placed.toNat + 2 * x.sumGiven.toNat + 4 * x.sealAfter.toNat + 8 * x.mismatch.toNat ∧
        leField 26 2 record = x.entry % 65536 ∧ leField 28 6 record = x.serial.toNat ∧ leField 34 2 record = 0 ∧
        leField 36 4 record = x.off % 4294967296 ∧ leField 40 4 record = x.sumA % 4294967296 ∧
        leField 44 4 record = x.sumB % 4294967296 ∧ leField 48 8 record = x.wtag.toNat ∧ leField 56 8 record = x.len.toNat

/-- R23, R72: a read across the control area's end is refused with zero beats; a body read is refused so in IDLE, WAITING and
MUTED, is answered OKAY with zero beats when no beat of it lies below L, and is otherwise forwarded to the file's record with
the beats that do. -/
def Obligations.BodyReadsServed : Prop :=
  ∀ (s : State) (r : ReadReq) (l : LaneNo) (off : Nat), LaneTakesRead s r l off →
    (off < 64 → 64 < off + 8 * r.beats →
      exec (.mixedRead r) s = .next (answering .read r.tag .refused (List.replicate (8 * r.beats) 0) s)) ∧
    (64 ≤ off → ((s.lane l).state = .idle ∨ (s.lane l).state = .waiting ∨ (s.lane l).state = .muted) →
      exec (.bodyRead r) s = .next (answering .read r.tag .refused (List.replicate (8 * r.beats) 0) s)) ∧
    (64 ≤ off → ((s.lane l).state = .receiving ∨ (s.lane l).state = .voiding) →
      ∀ f e en, (s.lane l).file = some (f, e) → s.entry? f e = some en →
        (en.len ≤ off - 64 →
          exec (.bodyRead r) s = .next (answering .read r.tag .okay (List.replicate (8 * r.beats) 0) s)) ∧
        (off - 64 < en.len →
          exec (.bodyRead r) s =
            .next (forwarding .read r.tag (.aperture l) (.bodyRead { lane := l, k := off - 64, len := en.len }) r.beats
              { addr := frameBase s + BitVec.ofNat 48 (f.val * frameSize s + (en.off + 64 + (off - 64)))
                body := .read (min r.beats ((en.len - (off - 64) + 7) / 8)) } s)))

/-! ## Placement -/

/-- R30, R48, R49, R51 to R53, R27, R28: a held JOB_LIMIT announce whose job test passes is placed in its class's OPEN frame
when it fits, and its write is answered OKAY; a file of length 0 completes in the same step. When it does not fit, that frame
seals with MISFIT; then, as with no OPEN frame, the lowest-numbered FREE frame is opened for it, or it is held again with
NO_FRAME. The command leaves a hold whose job test fails: that is the model's choice (logs 2 and 17). -/
def Obligations.HeldAnnounceRetried : Prop :=
  (∀ (s : State) (l : LaneNo) (h : Held) (r : OpenReq),
    s.resetLow = false → (s.lane l).state = .waiting → (s.lane l).held = some h → h.reason = .jobLimit →
    (2 < s.laneJobs l + (if h.ann.len = 0 then 2 else 1) → exec (.heldAnnounceRetry l) s = .next s) ∧
    (s.laneJobs l + (if h.ann.len = 0 then 2 else 1) ≤ 2 → s.findRecord .write h.slot = some r →
      ∃ t, exec (.heldAnnounceRetry l) s = .next t ∧ Decided s t l h.ann h.slot r.tag)) ∧
  ∀ (s : State) (l : LaneNo) (h : Held) (r : OpenReq) (f : FrameNo),
    s.resetLow = false → (s.lane l).state = .waiting → (s.lane l).held = some h → h.reason = .jobLimit →
    s.laneJobs l + (if h.ann.len = 0 then 2 else 1) ≤ 2 → s.findRecord .write h.slot = some r →
    s.classFrame h.ann.cls = some f → (s.frame f).state = .opened → (s.frame f).entries.length + 1 ≤ 2048 →
    (s.frame f).cursor + recordSize h.ann.len + dirSize ((s.frame f).entries.length + 1) ≤ frameSize s →
      ∃ t, exec (.heldAnnounceRetry l) s = .next t ∧
        (h.ann.len ≠ 0 → PlacedIn s t l h.ann f ∧
          SealedAsDue s t f ((s.frame f).cursor + recordSize h.ann.len) ((s.frame f).entries.length + 1)) ∧
        (h.ann.len = 0 → EmptyPlacedIn s t l h.ann f ∧
          EmptySealedAsDue s t f ((s.frame f).cursor + 512) ((s.frame f).entries.length + 1) h.ann.sealAfter) ∧
        t.port = { s.port with
          writes := s.port.writes.filter (fun x => x.slot != h.slot)
          answers := s.port.answers ++ [{ stream := .write, tag := r.tag, code := .okay, data := [] }] } ∧
        { t with port := s.port, lanes := s.lanes, frames := s.frames, classTable := s.classTable
                 fill := s.fill, waitList := s.waitList } = s

/-- R48 steps 4 to 6, R50 to R54: an announce that does not fit its class's OPEN frame seals that frame with cause MISFIT before
it is placed anywhere: the frame keeps its cursor and entries, and the class's entry is emptied. Then the lowest-numbered FREE
frame is opened and the file placed in it, its write answered OKAY; with no FREE frame the lane waits with reason NO_FRAME. The
number of the held write's record is the model's choice (log 6). -/
def Obligations.MisfitSealsTheFrame : Prop :=
  (∀ (s : State) (src : WriteSource) (l : LaneNo) (w : WriteReq) (a : Announce) (f : FrameNo),
    LaneTakesWrite s src l 0 w → laneWriteKind 0 w.bytes = .announce →
    validateAnnounce s (parseAnnounce (w.bytes.filterMap id)) = none →
    a = (parseAnnounce (w.bytes.filterMap id)).valid →
    ((s.lane l).state = .idle ∨ (s.lane l).state = .muted) →
    s.laneJobs l + (if a.len = 0 then 2 else 1) ≤ 2 →
    s.classFrame a.cls = some f → (s.frame f).state = .opened → (s.frame f).cls = some a.cls → ¬ Fits s f a.len →
      ∃ u t, SealsWith .misfit a.cls f s u ∧ exec (.announce src) s = .next t ∧
        (∀ g, LowestFree s g →
          OpenedIn u t l a g ∧ t.port = (answering .write w.tag .okay [] (afterLeaving src s)).port) ∧
        (NoneFree s → t = { heldOn l a .noFrame ((afterLeaving src s).freshSlot .write) u with
          port := (addRecord .write
            { slot := (afterLeaving src s).freshSlot .write, tag := w.tag, cls := .aperture l, origin := .heldAnnounce l
              stage := .held, beats := 8, preReset := false } (afterLeaving src s)).port })) ∧
  ∀ (s : State) (src : WriteSource) (l : LaneNo) (w : WriteReq) (a : Announce) (f : FrameNo),
    LaneTakesWrite s src l 0 w → laneWriteKind 0 w.bytes = .announce →
    validateAnnounce s (parseAnnounce (w.bytes.filterMap id)) = none →
    a = (parseAnnounce (w.bytes.filterMap id)).valid →
    ((s.lane l).state = .idle ∨ (s.lane l).state = .muted) →
    s.laneJobs l + (if a.len = 0 then 2 else 1) ≤ 2 →
    s.classFrame a.cls = some f → (s.frame f).state = .opened → (s.frame f).cls = some a.cls →
    (2048 < (s.frame f).entries.length + 1 ∨
      frameSize s < (s.frame f).cursor + recordSize a.len + dirSize ((s.frame f).entries.length + 1)) →
    (∀ g : FrameNo, g.val < frameCount s → (s.frame g).state ≠ .free) →
      ∃ t, exec (.announce src) s = .next t ∧
        (t.frame f).state = .sealing ∧ (t.frame f).sealCause = some .misfit ∧ (t.frame f).sealTick = some s.tick ∧
        (t.frame f).cursor = (s.frame f).cursor ∧ (t.frame f).entries = (s.frame f).entries ∧
        t.classFrame a.cls = none ∧ (∀ g, g ≠ f → t.frame g = s.frame g) ∧
        (t.lane l).state = .waiting ∧ (∃ h, (t.lane l).held = some h ∧ h.ann = a ∧ h.reason = .noFrame) ∧
        l ∈ t.waitList ∧ t.attn = { s.attn with frameShort := true } ∧ t.port.answers = s.port.answers ∧
        (∀ k, k ≠ l → t.lane k = s.lane k) ∧
        { t with port := s.port, lanes := s.lanes, frames := s.frames, classTable := s.classTable, fill := s.fill
                 waitList := s.waitList, attn := s.attn } = s

/-! ## Body writes and coverage -/

/-- R63, R64, R69, R73: a body write that passes the coverage tests is forwarded to its place in the file's record with the
bytes in range, its range is claimed, bytes received and outstanding writes follow, and the lane timer restarts. -/
def Obligations.BodyWriteForwarded : Prop :=
  ∀ (s : State) (src : WriteSource) (l : LaneNo) (off : Nat) (w : WriteReq) (f : FrameNo) (e : Nat) (en : Entry)
    (bytes : List (Option Byte)) (c : Extent) (es : List Extent),
    LaneTakesWrite s src l off w → 64 ≤ off → (s.lane l).state = .receiving → (s.lane l).file = some (f, e) →
    s.entry? f e = some en → (en.state = .placed ∨ en.state = .voiding) →
    bodyPlan en.len (s.lane l).extents (off - 64) w.bytes = .forward bytes c es →
      exec (.bodyWrite src) s =
        .next (forwarding .write w.tag (.aperture l)
          (.bodyWrite { lane := l, frame := f, entry := e, off := en.off, k := off - 64, lo := c.start, hi := c.stop
                        pastEnd := decide (en.len < off - 64 + w.bytes.length) })
          (w.bytes.length / 8)
          { addr := frameBase s + BitVec.ofNat 48 (f.val * frameSize s + (en.off + 64 + (off - 64)))
            body := .write bytes }
          (modLane l (fun ln => { ln with
              extents := es, outstanding := ln.outstanding + 1, firstWrite := true
              timer := some { start := s.tick, reported := false } })
            (modEntry f e (fun x => { x with received := (es.map fun x => x.stop - x.start).sum })
              (afterLeaving src s))))

/-- R64, R65, R67, R68: which body writes are forwarded, and what is carried. The bytes in range are the strobed ones below L.
With none, the write is noted, as clamped when it reaches past L. When they are no unbroken range, or overlap an extent, or
leave more than 8 extents after merging, it is refused. Else it is forwarded, in whole beats: the bytes below L as written,
strobes set for exactly the claim range, and the extents merged with it. -/
def Obligations.ForwardedPlanIsItsClaim : Prop :=
  ∀ (len k : Nat) (es : List Extent) (bytes : List (Option Byte)), bytes.length % 8 = 0 →
    let inRange (q : Nat) : Prop := k ≤ q ∧ q < len ∧ bytes[q - k]?.any Option.isSome = true
    let spans (c : Extent) : Prop := c.start < c.stop ∧ ∀ q, inRange q ↔ c.start ≤ q ∧ q < c.stop
    ((∀ q, ¬ inRange q) → bodyPlan len es k bytes = .noted (decide (len < k + bytes.length))) ∧
    ((∃ q, inRange q) → (∀ c, ¬ spans c) → bodyPlan len es k bytes = .refused) ∧
    (∀ c, spans c → (∃ x ∈ es, x.start < c.stop ∧ c.start < x.stop) → bodyPlan len es k bytes = .refused) ∧
    (∀ c, spans c → 8 < (mergeExtents c es).length → bodyPlan len es k bytes = .refused) ∧
    (∀ c, spans c → (∀ x ∈ es, x.stop ≤ c.start ∨ c.stop ≤ x.start) → (mergeExtents c es).length ≤ 8 →
      ∃ fwd, bodyPlan len es k bytes = .forward fwd c (mergeExtents c es)) ∧
    ∀ fwd c es', bodyPlan len es k bytes = .forward fwd c es' →
      spans c ∧ c.stop ≤ len ∧ k ≤ c.start ∧ c.stop ≤ k + fwd.length ∧ fwd.length % 8 = 0 ∧
        fwd.length ≤ bytes.length ∧ es' = mergeExtents c es ∧ es'.length ≤ 8 ∧
        (∀ x ∈ es, x.stop ≤ c.start ∨ c.stop ≤ x.start) ∧
        (∀ i, i < bytes.length → k + i < len → i < fwd.length ∧ fwd[i]? = bytes[i]?) ∧
        (∀ i, i < fwd.length → len ≤ k + i → fwd[i]? = some none) ∧
        ∀ i, i < fwd.length → (fwd[i]?.any Option.isSome = true ↔ c.start ≤ k + i ∧ k + i < c.stop)

/-- R66, R68: merging a claim range into an ascending list of disjoint, non-adjacent extents, none of which it overlaps, gives
such a list again, within the same bounds, whose total length has grown by the length of the range. -/
def Obligations.MergeKeepsExtents : Prop :=
  ∀ (es : List Extent) (c : Extent) (len : Nat),
    es.Pairwise (fun x y => x.stop < y.start) → (∀ x ∈ es, x.start < x.stop ∧ x.stop ≤ len) →
    c.start < c.stop → c.stop ≤ len → overlaps c es = false →
      (mergeExtents c es).Pairwise (fun x y => x.stop < y.start) ∧
        (∀ x ∈ mergeExtents c es, x.start < x.stop ∧ x.stop ≤ len) ∧
        claimedBytes (mergeExtents c es) = claimedBytes es + (c.stop - c.start)

/-- R3, R20, R22, R64, R65, R67, R68: a body write that is not forwarded: refused and counted in IDLE and VOIDING, swallowed and
answered OKAY in MUTED, and in RECEIVING refused and counted when its range is broken, overlaps or would make a ninth extent, or
answered OKAY, and counted as clamped when it reaches past L, when no byte of it is in range. And a write of any kind that its
lane does not take now: while the lane holds an announce, the write list is full, or an earlier write addressed to that lane
waits, a presented one joins the tail of the lane's intake, and a waiting one keeps its place. That the order of presentation
outlasts a reset is the model's choice (log 3). -/
def Obligations.BodyWriteNotForwarded : Prop :=
  (∀ (s : State) (src : WriteSource) (l : LaneNo) (off : Nat) (w : WriteReq),
    LaneTakesWrite s src l off w → 64 ≤ off →
    let refusal : State := modLane l (fun ln => { ln with refusedWr := ln.refusedWr + 1 })
      (answering .write w.tag .refused [] (afterLeaving src s))
    (((s.lane l).state = .idle ∨ (s.lane l).state = .voiding) → exec (.bodyWrite src) s = .next refusal) ∧
    ((s.lane l).state = .muted →
      exec (.bodyWrite src) s = .next (answering .write w.tag .okay [] (afterLeaving src s))) ∧
    (∀ f e en, (s.lane l).state = .receiving → (s.lane l).file = some (f, e) → s.entry? f e = some en →
      (bodyPlan en.len (s.lane l).extents (off - 64) w.bytes = .refused →
        exec (.bodyWrite src) s = .next refusal) ∧
      (∀ clamped, bodyPlan en.len (s.lane l).extents (off - 64) w.bytes = .noted clamped →
        clamped = decide (en.len < off - 64 + w.bytes.length) ∧
        exec (.bodyWrite src) s =
          .next (modLane l (fun ln => if clamped then { ln with clamped := ln.clamped + 1 } else ln)
            (answering .write w.tag .okay [] (afterLeaving src s)))))) ∧
  ∀ (s : State) (l : LaneNo) (off : Nat) (w : WriteReq), s.resetLow = false → routeWrite s w = .aperture l off →
    let command (src : WriteSource) : Instr :=
      match laneWriteKind off w.bytes with
      | .announce => .announce src
      | .controlArea => .controlAreaWrite src
      | .body => .bodyWrite src
    let turned := (s.lane l).held ≠ none ∨ (s.lane l).state = .waiting ∨ s.port.writes.length = listCapacity
    (w.wf = true → (turned ∨ ¬ HeadOfIntake s l (.present w)) →
      exec (command (.present w)) s = .next { s with port := { s.port with untaken := s.port.untaken ++ [w] } }) ∧
    (∀ n, s.port.untaken[n]? = some w → (turned ∨ ¬ HeadOfIntake s l (.waiting n)) →
      exec (command (.waiting n)) s = .next s)

/-- R70, R75, R85, R87: an OKAY answer to a body write adds its written bytes to the file sum at their body offsets and to the
pack sum at their frame offsets, and lowers the outstanding writes; a file that this makes written stops its timer, keeps the
answer back and completes when it may; else the writer is answered OKAY, and a void that may end does. -/
def Obligations.BodyWriteOkayTaken : Prop :=
  ∀ (s : State) (btag : Nat) (r : OpenReq) (i : BodyWriteInfo) (o : Outstanding) (en : Entry),
    Answers s btag .write r [] → s.findOutstanding btag = some o → r.origin = .bodyWrite i → r.preReset = false →
    (s.lane i.lane).file = some (i.frame, i.entry) → s.entry? i.frame i.entry = some en →
    ((s.lane i.lane).state = .receiving ∧ en.state = .placed ∨
      (s.lane i.lane).state = .voiding ∧ en.state = .voiding) →
    let bytes := match o.req.body with | .write bytes => bytes | .read _ => []
    let summed : State := modLane i.lane
      (fun ln => { ln with outstanding := ln.outstanding - 1
                           clamped := if i.pastEnd then ln.clamped + 1 else ln.clamped })
      (modFrame i.frame (fun fr => { fr with sums := fr.sums.addBytes (i.off + 64 + i.k) bytes })
        (modEntry i.frame i.entry (fun x => { x with sums := x.sums.addBytes i.k bytes }) s))
    let written := (s.lane i.lane).state = .receiving ∧ (s.lane i.lane).outstanding ≤ 1 ∧
      (s.lane i.lane).extents = [{ start := 0, stop := en.len }]
    (written →
      ∃ t, exec (.bodyWriteOkay btag) s = .next t ∧
        exec (.fileCompletion i.lane)
          (modLane i.lane (fun ln => { ln with timer := none, lastWrite := some r.slot })
            { summed with port := { s.port with
              outstanding := s.port.outstanding.filter (fun x => x.btag != btag)
              writes := s.port.writes.map fun x =>
                if x.slot = r.slot then { x with stage := .pendingOwner .okay [] } else x } }) = .next t) ∧
    (¬ written →
      ∃ t, exec (.bodyWriteOkay btag) s = .next t ∧
        exec (.voidEnd i.lane) (settling btag .write r .okay [] summed) = .next t)

/-- R71, R77: a FAULT answer to a body write adds nothing to any sum, lowers the outstanding writes and answers FAULT; a
RECEIVING lane's file is voided with cause MEMFAULT, a running void keeps its cause, and a void that may end does. -/
def Obligations.BodyWriteFaultVoids : Prop :=
  ∀ (s : State) (btag : Nat) (r : OpenReq) (i : BodyWriteInfo),
    Answers s btag .write r [] → r.origin = .bodyWrite i → r.preReset = false → (s.lane i.lane).lastWrite = none →
    let answered : State := modLane i.lane (fun ln => { ln with outstanding := ln.outstanding - 1 })
      (settling btag .write r .fault [] s)
    ((s.lane i.lane).state = .voiding →
      ∃ t, exec (.bodyWriteFault btag) s = .next t ∧ exec (.voidEnd i.lane) answered = .next t) ∧
    (∀ f e, (s.lane i.lane).state = .receiving → (s.lane i.lane).file = some (f, e) →
      ∃ t, exec (.bodyWriteFault btag) s = .next t ∧
        exec (.voidEnd i.lane)
          (modLane i.lane (fun ln => { ln with
              state := .voiding, voidCause := some .memfault, timer := none, held := none, muteMark := false })
            (modEntry f e (fun x => if x.state = .placed then { x with state := .voiding } else x) answered)) = .next t)

/-- R72, R4: the answer to a body read: OKAY with the controller's bytes below the recorded length, zero at and above it, over
as many beats as the request asked for; FAULT with all beats zero; nothing else changes, whatever the lane's state has become.
-/
def Obligations.BodyReadAnswered : Prop :=
  ∀ (s : State) (btag : Nat) (r : OpenReq) (a : BufAnswer) (i : BodyReadInfo),
    Answers s btag .read r a.data → r.origin = .bodyRead i → r.preReset = false →
    (a.code = .okay →
      ∃ data : List Byte, exec (.bodyReadAnswer btag a) s = .next (settling btag .read r .okay data s) ∧
        data.length = 8 * r.beats ∧
        ∀ j, j < 8 * r.beats → data[j]? = some (if i.k + j < i.len then (a.data[j]?).getD 0 else 0)) ∧
    (a.code = .fault →
      exec (.bodyReadAnswer btag a) s = .next (settling btag .read r .fault (List.replicate (8 * r.beats) 0) s))

/-- R76, R35: a written file with job room completes: its entry COMPLETE with end tick and bytes received L, its PAD job when
the pad is not empty, the result with its sums, the counter, the lane IDLE, the held-back answer OKAY, and with SEAL_AFTER an
OPEN frame SEALING. -/
def Obligations.FileCompletes : Prop :=
  ∀ (s : State) (l : LaneNo) (f : FrameNo) (e : Nat) (en : Entry) (slot : Nat) (r : OpenReq),
    s.resetLow = false → (s.lane l).state = .receiving → (s.lane l).file = some (f, e) → s.entry? f e = some en →
    en.state = .placed → (s.lane l).lastWrite = some slot → s.findRecord .write slot = some r →
    ((64 + en.len) % 512 = 0 ∨ s.laneJobs l ≤ 1) →
      ∃ t, exec (.fileCompletion l) s = .next t ∧
        t.entry? f e = some { en with
          state := .complete, endTick := some s.tick, received := en.len
          mismatch := match en.expected with
            | some x => !(en.sums.a == x.1.toNat && en.sums.b == x.2.toNat)
            | none => false } ∧
        t.port = { s.port with
          writes := s.port.writes.filter (fun x => x.slot != slot)
          answers := s.port.answers ++ [{ stream := .write, tag := r.tag, code := .okay, data := [] }] } ∧
        (t.lane l).state = .idle ∧ (t.lane l).file = none ∧ (t.lane l).extents = [] ∧ (t.lane l).timer = none ∧
        (t.lane l).completed = (s.lane l).completed + 1 ∧
        (∃ x, (t.lane l).results.getLast? = some x ∧
          x.code = (if en.differs then .completeMismatch else .complete) ∧ x.placed = true ∧ x.entry = e ∧
          x.serial = (s.frame f).serial ∧ x.off = en.off ∧ x.sumA = en.sums.a ∧ x.sumB = en.sums.b ∧
          x.wtag = en.wtag) ∧
        (¬ (64 + en.len) % 512 = 0 → t.fill.queue = s.fill.queue ++
          [{ kind := .pad, frame := f, lane := some l, start := en.off + 64 + en.len
             stop := en.off + recordSize en.len, source := .zeros }]) ∧
        (en.sealAfter = true → (s.frame f).state = .opened →
          (t.frame f).state = .sealing ∧ (t.frame f).sealCause = some .sealAfter) ∧
        (∀ k, k ≠ l → t.lane k = s.lane k) ∧ (∀ g, g ≠ f → t.frame g = s.frame g) ∧
        { t with port := s.port, lanes := s.lanes, frames := s.frames, classTable := s.classTable, fill := s.fill
                 run := s.run } = s

/-- R27, R34, R35, R48 to R52, R57, R78, R79, R90: the end of a void: the file's share withdrawn from the pack sums, the
VOID_FILL job, the entry VOID with its end tick and the bytes claimed and its file sums kept, the void result and counter with
LANE_ERR. Then the lane goes IDLE, or MUTED when its mute mark is set; a held announce goes to placement: held on with reason
JOB_LIMIT or NO_FRAME, or placed in its class's OPEN frame, or, after a misfit seals that frame or with none OPEN, as entry 0 of
the lowest-numbered FREE frame. -/
def Obligations.VoidEnds : Prop :=
  ∀ (s : State) (l : LaneNo) (f : FrameNo) (e : Nat) (en : Entry) (cause : VoidCause),
    s.resetLow = false → (s.lane l).state = .voiding → (s.lane l).outstanding = 0 → s.laneJobs l ≤ 1 →
    (s.lane l).file = some (f, e) → s.entry? f e = some en → en.state = .voiding →
    (s.lane l).voidCause = some cause →
    let code : ResultCode := match cause with
      | .timeout => .voidTimeout
      | .superseded => .voidSuperseded
      | .memfault => .voidMemfault
      | .halt => .voidHalt
    let ended : State :=
      { modLane l (fun ln => { ln.pushResult (voidResult code e en (s.frame f).serial) with
            voided := ln.voided + 1, file := none, extents := [], outstanding := 0, timer := none, firstWrite := false
            voidCause := none, lastWrite := none })
          (modEntry f e (fun x => { x with
              state := .void, endTick := some s.tick
              received := ((s.lane l).extents.map fun x => x.stop - x.start).sum })
            (modFrame f (fun fr => { fr with sums := fr.sums.withdraw en.sums ((en.off + 64) / 4) }) s)) with
        fill := { queue := s.fill.queue ++
                    [{ kind := .voidFill, frame := f, lane := some l, start := en.off + 64
                       stop := en.off + recordSize en.len, source := .zeros }]
                  progress := if s.fill.queue = [] then some { next := en.off + 64, issued := 0, answered := 0 }
                              else s.fill.progress }
        attn := { s.attn with laneErr := true } }
    let waits (h : Held) (reason : WaitReason) : State := modLane l (fun ln => { ln with
      state := .waiting, muteMark := false
      held := some { ann := h.ann, reason := reason, timer := { start := s.tick, reported := false }, slot := h.slot } })
      ended
    ((s.lane l).held = none → exec (.voidEnd l) s = .next (modLane l (fun ln => { ln with
      state := if (s.lane l).muteMark then .muted else .idle, muteMark := false }) ended)) ∧
    ∀ h, (s.lane l).held = some h →
      ((s.laneJobs l = 1 ∨ h.ann.len = 0) → exec (.voidEnd l) s = .next (waits h .jobLimit)) ∧
      (s.laneJobs l = 0 → h.ann.len ≠ 0 → s.classFrame h.ann.cls = none →
        (∀ g : FrameNo, g.val < frameCount s → (s.frame g).state ≠ .free) →
        exec (.voidEnd l) s = .next { waits h .noFrame with
          waitList := s.waitList.filter (· != l) ++ [l], attn := { s.attn with laneErr := true, frameShort := true } }) ∧
      (∀ (r : OpenReq) (g : FrameNo), s.laneJobs l = 0 → h.ann.len ≠ 0 → s.findRecord .write h.slot = some r →
        s.classFrame h.ann.cls = some g → (s.frame g).state = .opened → (s.frame g).entries.length + 1 ≤ 2048 →
        (s.frame g).cursor + recordSize h.ann.len + dirSize ((s.frame g).entries.length + 1) ≤ frameSize s →
        ∃ t, exec (.voidEnd l) s = .next t ∧ PlacedIn ended t l h.ann g ∧
          SealedAsDue s t g ((s.frame g).cursor + recordSize h.ann.len) ((s.frame g).entries.length + 1) ∧
          t.port = { s.port with
            writes := s.port.writes.filter (fun x => x.slot != h.slot)
            answers := s.port.answers ++ [{ stream := .write, tag := r.tag, code := .okay, data := [] }] } ∧
          { t with port := s.port, lanes := ended.lanes, frames := ended.frames, classTable := s.classTable
                   fill := ended.fill, waitList := s.waitList } = ended) ∧
      ∀ r, s.findRecord .write h.slot = some r →
        ∃ t, exec (.voidEnd l) s = .next t ∧ Decided ended t l h.ann h.slot r.tag

/-! ## The two-term sum -/

/-- R81, R82, R89, R90: one byte b at position q adds c = (b × 256^(q mod 4)) mod P to A and (floor(q / 4) + 1) × c to B, modulo
P; the sum reached does not depend on the order in which (position, value) pairs are added; a withdrawal gives the residues
below P of A − A_f and B − (B_f + s × A_f), so that withdrawing (0, 0) leaves a sum in range; and bytes added to a file sum at
body offset k and to the pack sum at frame offset 4 × s + k, s = (off + 64) / 4, make no difference to what withdrawing the file
leaves. -/
def Obligations.SumsAddAndWithdraw : Prop :=
  (∀ (x : TwoSum) (q : Nat) (b : Byte),
    let c := b.toNat * 256 ^ (q % 4) % 2147483647
    x.addByte q b = { a := (x.a + c) % 2147483647, b := (x.b + (q / 4 + 1) * c) % 2147483647 }) ∧
  (∀ (x : TwoSum) (ps qs : List (Nat × Byte)), ps.Perm qs →
    ps.foldl (fun y p => y.addByte p.1 p.2) x = qs.foldl (fun y p => y.addByte p.1 p.2) x) ∧
  (∀ (pack file : TwoSum) (s : Nat),
    let x := pack.withdraw file s
    x.a < 2147483647 ∧ x.b < 2147483647 ∧ (x.a + file.a) % 2147483647 = pack.a % 2147483647 ∧
      (x.b + (file.b + s * file.a)) % 2147483647 = pack.b % 2147483647) ∧
  (∀ (x : TwoSum) (s : Nat), x.inRange → x.withdraw { a := 0, b := 0 } s = x) ∧
  (∀ (pack file : TwoSum) (off k : Nat) (bytes : List (Option Byte)), off % 512 = 0 →
    (pack.addBytes (off + 64 + k) bytes).withdraw (file.addBytes k bytes) ((off + 64) / 4) =
      pack.withdraw file ((off + 64) / 4))

/-! ## Drains -/

/-- R140: a frame-region read of a FREE, OPEN or SEALING frame is answered REFUSED with zero beats; one of a SEALED frame at
another offset than 0, or of a DRAINED or HELD frame, is forwarded at its own address, no member of a pass and not counted. -/
def Obligations.FrameReadsServed : Prop :=
  ∀ (s : State) (r : ReadReq) (f : FrameNo) (off : Nat), FrameTakesRead s r f off →
    (((s.frame f).state = .free ∨ (s.frame f).state = .opened ∨ (s.frame f).state = .sealing) →
      exec (.frameRegionRead r) s = .next (answering .read r.tag .refused (List.replicate (8 * r.beats) 0) s)) ∧
    (((s.frame f).state = .sealed ∧ off ≠ 0 ∨ (s.frame f).state = .drained ∨ (s.frame f).state = .held) →
      exec (.frameRegionRead r) s =
        .next (forwarding .read r.tag (.frame f)
          (.drainRead { frame := f, off := off, member := false, counted := false, lo := 0, hi := 0 }) r.beats
          { addr := r.addr, body := .read r.beats } s))

/-- R142, R147, R139, R143: a read at frame offset 0 starts a pass of a SEALED frame, which leaves the seal queue, or restarts
the pass of a DRAINING one, the marks of its outstanding reads cleared; the drain state is reset, the drain timer starts, and
the read is forwarded with the claim from 0 to its end, clipped at image_length. -/
def Obligations.DrainPassStarts : Prop :=
  ∀ (s : State) (r : ReadReq) (f : FrameNo) (il : Nat), FrameTakesRead s r f 0 →
    (s.frame f).imageLength = some il → 0 < il →
    let claimed (u : State) : State :=
      forwarding .read r.tag (.frame f)
        (.drainRead { frame := f, off := 0, member := true, counted := true, lo := 0, hi := min (8 * r.beats) il }) r.beats
        { addr := r.addr, body := .read r.beats }
        (modFrame f (fun fr => { fr with
          state := .draining
          drain := some { cursor := min (8 * r.beats) il, broken := false, outstanding := 1, sums := { a := 0, b := 0 }
                          timer := some { start := s.tick, reported := false } } }) u)
    ((s.frame f).state = .sealed →
      exec (.frameRegionRead r) s = .next (claimed { s with sealQ := s.sealQ.filter (· != f) })) ∧
    ((s.frame f).state = .draining → exec (.frameRegionRead r) s = .next (claimed (unmarking f s)))

/-- R143, R141: a read of frame offsets a to b, a above 0, of a DRAINING frame is forwarded as a member of the pass and restarts
the drain timer; it claims from the drain cursor to b, clipped at image_length, and is counted, when the cursor lies in it and
below image_length; past the end and as a re-read it does no more; a gap sets the broken flag. -/
def Obligations.DrainReadTaken : Prop :=
  ∀ (s : State) (r : ReadReq) (f : FrameNo) (off il : Nat) (d : Drain), FrameTakesRead s r f off → off ≠ 0 →
    (s.frame f).state = .draining → (s.frame f).drain = some d → (s.frame f).imageLength = some il →
    let b := off + 8 * r.beats
    let takes (counted : Bool) (lo hi : Nat) (d' : Drain) : State :=
      forwarding .read r.tag (.frame f)
        (.drainRead { frame := f, off := off, member := true, counted := counted, lo := lo, hi := hi }) r.beats
        { addr := r.addr, body := .read r.beats }
        (modFrame f (fun fr => { fr with
          drain := some { d' with timer := some { start := s.tick, reported := false } } }) s)
    exec (.frameRegionRead r) s = .next (
      if off ≤ d.cursor ∧ d.cursor < b ∧ d.cursor < il then
        takes true d.cursor (min b il) { d with cursor := min b il, outstanding := d.outstanding + 1 }
      else if d.cursor = il ∨ b ≤ d.cursor then takes false 0 0 d
      else takes false 0 0 { d with broken := true })

/-- R145, R146, R141: the answer to a drain read goes to the fabric, OKAY with the buffer's data or FAULT with zero beats. While
its frame is DRAINING, the OKAY of a counted read adds the claimed bytes below image_length − 64 to the drain sum, the FAULT of
a member sets the broken flag, and either lowers the outstanding count of a counted read, whose pass is then tested for
evaluation. -/
def Obligations.DrainReadAnswered : Prop :=
  ∀ (s : State) (btag : Nat) (r : OpenReq) (i : DrainReadInfo) (data : List Byte),
    Answers s btag .read r data → r.origin = .drainRead i → r.preReset = false →
    let okay : State := settling btag .read r .okay data s
    let fault : State := settling btag .read r .fault (List.replicate (8 * r.beats) 0) s
    let setDrain (d : Drain) (u : State) : State := modFrame i.frame (fun fr => { fr with drain := some d }) u
    ((i.counted = false ∨ (s.frame i.frame).state ≠ .draining) → exec (.drainReadOkay btag data) s = .next okay) ∧
    ((i.member = false ∨ (s.frame i.frame).state ≠ .draining) → exec (.drainReadFault btag) s = .next fault) ∧
    (∀ (d : Drain) (il : Nat), (s.frame i.frame).state = .draining → (s.frame i.frame).drain = some d →
      (s.frame i.frame).imageLength = some il →
      (i.counted = true →
        ∃ t, exec (.drainReadOkay btag data) s = .next t ∧
          exec (.drainEvaluation i.frame) (setDrain { d with
            outstanding := d.outstanding - 1
            sums := d.sums.addBytes i.off (data.mapIdx fun j b =>
              if i.lo ≤ i.off + j ∧ i.off + j < i.hi ∧ i.off + j < il - 64 then some b else none) } okay) = .next t) ∧
      (i.member = true → i.counted = false →
        exec (.drainReadFault btag) s = .next (setDrain { d with broken := true } fault)) ∧
      (i.member = true → i.counted = true →
        ∃ t, exec (.drainReadFault btag) s = .next t ∧
          exec (.drainEvaluation i.frame)
            (setDrain { d with broken := true, outstanding := d.outstanding - 1 } fault) = .next t))

/-- R148, R153, R58, R59, R93: a DRAINING frame whose cursor stands at image_length with no read outstanding is evaluated:
DRAINED and counted when neither flag is set and the sums are equal, and then FREE at once with AUTO_RELEASE on, owing a pulse,
with a wake pass over the waiting lanes; else HELD, counted, PACK_HELD set. The drain timer stops and the marks clear. Before
that the evaluation does nothing (the model's choice for a command that is not enabled, log 2). -/
def Obligations.PassEvaluated : Prop :=
  ∀ (s : State) (f : FrameNo) (d : Drain) (il : Nat), s.resetLow = false → (s.frame f).state = .draining →
    (s.frame f).drain = some d → (s.frame f).imageLength = some il →
    let verified := d.broken = false ∧ (s.frame f).imageFault = false ∧ d.sums = (s.frame f).sums
    let ends (st : FrameState) : State :=
      modFrame f (fun fr => { fr with state := st, drain := some { d with timer := none } }) (unmarking f s)
    (¬ (d.cursor = il ∧ d.outstanding = 0) → exec (.drainEvaluation f) s = .next s) ∧
    (d.cursor = il → d.outstanding = 0 →
      (¬ verified → exec (.drainEvaluation f) s =
        .next { ends .held with run := { s.run with heldN := s.run.heldN + 1 }
                                attn := { s.attn with packHeld := true } }) ∧
      (verified → s.items.autoRelease = 0 → exec (.drainEvaluation f) s =
        .next { ends .drained with run := { s.run with drainedN := s.run.drainedN + 1 } }) ∧
      (verified → s.items.autoRelease ≠ 0 → ∃ t, exec (.drainEvaluation f) s = .next t ∧
        WakePass s.waitList { modFrame f (fun _ => Frame.free) (unmarking f s) with
          run := { s.run with drainedN := s.run.drainedN + 1 }, owed := s.owed + 1 } t) ∧
      (verified → s.items.autoRelease ≠ 0 → s.waitList = [] → exec (.drainEvaluation f) s =
        .next { modFrame f (fun _ => Frame.free) (unmarking f s) with
                  run := { s.run with drainedN := s.run.drainedN + 1 }, owed := s.owed + 1 }))

/-! ## Fill jobs and sealing -/

/-- R114, R88: the OKAY answer to a fill burst adds its strobed bytes to the pack sum at their frame offsets, the trailer's left
out; a FAULT adds nothing and sets the image-fault flag and IMAGE_FAULT. Either counts as answered, and the job completes when
that was its last answer. -/
def Obligations.FillBurstAnswered : Prop :=
  ∀ (s : State) (btag : Nat) (o : Outstanding) (k : JobKind) (f : FrameNo) (off : Nat),
    s.resetLow = false → s.findOutstanding btag = some o → o.origin = .burst k f off →
    let counted (u : State) : State :=
      { u with port := { s.port with outstanding := s.port.outstanding.filter (fun x => x.btag != btag) }
               fill := { s.fill with progress := s.fill.progress.map fun p => { p with answered := p.answered + 1 } } }
    let bytes := match o.req.body with | .write bytes => bytes | .read _ => []
    let summed := bytes.mapIdx fun j b =>
      match (s.frame f).imageLength with
      | some il => if il - 64 ≤ off + j ∧ off + j < il then none else b
      | none => b
    (∃ t, exec (.fillBurstOkay btag) s = .next t ∧
      exec .fillJobComplete (counted (modFrame f (fun fr => { fr with sums := fr.sums.addBytes off summed }) s)) =
        .next t) ∧
    (∃ t, exec (.fillBurstFault btag) s = .next t ∧
      exec .fillJobComplete (counted
        { modFrame f (fun fr => { fr with imageFault := true }) s with attn := { s.attn with imageFault := true } }) =
        .next t)

/-- R115, R127, R128: a job whose bursts are all offered and answered leaves the queue and the next becomes current; the seal
unit examines its frame, or, for a DIRECTORY job, ends the sealing: SEALED at the tail of the seal queue and counted, or HELD
when the image-fault flag is set. The lane of a file job then goes on: a written file completes, a void may end, a held
JOB_LIMIT announce is tried again, and held again with a new wait start when the job test fails. -/
def Obligations.FillJobCompletes : Prop :=
  ∀ (s : State) (j : Job) (rest : List Job) (p : Progress), s.resetLow = false → s.fill.queue = j :: rest →
    s.fill.progress = some p → j.stop ≤ p.next → p.answered = p.issued →
    let left : State := { s with fill := {
      queue := rest, progress := rest.head?.map fun k => { next := k.start, issued := 0, answered := 0 } } }
    (j.kind = .directory → j.lane = none → (s.frame j.frame).state = .sealing → (s.frame j.frame).stage = .writing →
      let ends (st : FrameState) : State :=
        modFrame j.frame (fun fr => { fr with
          state := st, cls := none, stage := .none
          drain := some { cursor := 0, broken := false, outstanding := 0, sums := { a := 0, b := 0 }, timer := none } }) left
      ∃ t, exec .fillJobComplete s = .next t ∧ exec .stopComplete (
        if (s.frame j.frame).imageFault then
          { ends .held with run := { s.run with heldN := s.run.heldN + 1 }, attn := { s.attn with packHeld := true } }
        else { ends .sealed with run := { s.run with sealedN := s.run.sealedN + 1 }, sealQ := s.sealQ ++ [j.frame] }) =
          .next t) ∧
    (j.kind ≠ .directory → ∃ t v, exec .fillJobComplete s = .next t ∧ exec (.sealReady j.frame) left = .next v ∧
      ((j.lane = none ∨ ∃ l, j.lane = some l ∧ ((s.lane l).state = .idle ∨ (s.lane l).state = .muted)) →
        exec .stopComplete v = .next t) ∧
      (∀ l, j.lane = some l → (s.lane l).state = .receiving → exec (.fileCompletion l) v = .next t) ∧
      (∀ l, j.lane = some l → (s.lane l).state = .voiding → exec (.voidEnd l) v = .next t) ∧
      (∀ l h, j.lane = some l → (s.lane l).state = .waiting → (s.lane l).held = some h → h.reason = .jobLimit →
        v.laneJobs l + (if h.ann.len = 0 then 2 else 1) ≤ 2 →
          ∃ w, exec (.heldAnnounceRetry l) v = .next w ∧ exec .stopComplete w = .next t) ∧
      (∀ l h, j.lane = some l → (s.lane l).state = .waiting → (s.lane l).held = some h → h.reason = .jobLimit →
        2 < v.laneJobs l + (if h.ann.len = 0 then 2 else 1) →
          exec .stopComplete (heldOn l h.ann .jobLimit h.slot v) = .next t))

/-- R125, R126: a gathering frame with no entry pending and no job into it gets its image_length and its DIRECTORY job and moves
to WRITING; any other frame is left as it is. -/
def Obligations.SealReady : Prop :=
  ∀ (s : State) (f : FrameNo), s.resetLow = false →
    let ready := (s.frame f).stage = .gathering ∧
      (∀ en ∈ (s.frame f).entries, en.state ≠ .placed ∧ en.state ≠ .voiding) ∧ ∀ j ∈ s.fill.queue, j.frame ≠ f
    let n := (s.frame f).entries.length
    let c := (s.frame f).cursor
    let il := c + (64 * (n + 1) + 511) / 512 * 512
    let job : Job := { kind := .directory, frame := f, lane := none, start := c, stop := il
                       source := .directory c n il (s.frame f).serial }
    (¬ ready → exec (.sealReady f) s = .next s) ∧
    (ready → exec (.sealReady f) s =
      .next { modFrame f (fun fr => { fr with imageLength := some il, stage := .writing }) s with
        fill := { queue := s.fill.queue ++ [job]
                  progress := if s.fill.queue = [] then some { next := c, issued := 0, answered := 0 }
                              else s.fill.progress } })

/-! ## Timers -/

/-- R161 to R166: an advance adds 1 to the tick, modulo 2^32, and tests every running deadline, its elapsed time taken modulo
2^32, against its limit: AGE_LIMIT of an OPEN frame, unless it is 0, four times LANE_TIMEOUT before the first forwarded write
and LANE_TIMEOUT after it, HOLD_TIMEOUT and DRAIN_TIMEOUT. Nothing else changes. -/
def Obligations.TickAdvances : Prop :=
  ∀ s : State, s.resetLow = false →
    let now := s.tick + 1
    let test (limit : Nat) (x : Timer) : Timer :=
      { x with reported := x.reported || decide (limit ≤ (now - x.start).toNat) }
    ∃ t, exec .tickAdvance s = .next t ∧ t.tick = now ∧
      (∀ l, t.lane l = { s.lane l with
        timer := (s.lane l).timer.map (test
          (if (s.lane l).firstWrite then s.items.laneTimeout.toNat else 4 * s.items.laneTimeout.toNat))
        held := (s.lane l).held.map fun h => { h with timer := test s.items.holdTimeout.toNat h.timer } }) ∧
      (∀ f, t.frame f = { s.frame f with
        ageReported := (s.frame f).ageReported ||
          decide ((s.frame f).state = .opened ∧ s.items.ageLimit ≠ 0 ∧
            s.items.ageLimit.toNat ≤ (now - (s.frame f).openTick).toNat)
        drain := (s.frame f).drain.map fun d =>
          { d with timer := d.timer.map (test s.items.drainTimeout.toNat) } }) ∧
      { t with tick := s.tick, lanes := s.lanes, frames := s.frames } = s

/-- R163, R54, R150, R166: a reported age expiry seals a frame still OPEN with cause AGE, its class's entry emptied, and the
seal unit examines it; a reported drain expiry sends a DRAINING frame back to SEALED at the tail of the seal queue with its
drain state reset and the marks of its reads cleared. -/
def Obligations.FrameExpiries : Prop :=
  ∀ (s : State) (f : FrameNo), s.resetLow = false →
    ((s.frame f).ageReported = true →
      ((s.frame f).state ≠ .opened → exec (.ageExpiry f) s = .next s) ∧
      (∀ c, (s.frame f).state = .opened → (s.frame f).cls = some c →
        ∃ t, exec (.ageExpiry f) s = .next t ∧ exec (.sealReady f) (setClassFrame c none
          (modFrame f (fun fr => { fr with state := .sealing, sealCause := some .age, sealTick := some s.tick
                                           stage := .gathering, ageReported := false }) s)) = .next t)) ∧
    (∀ d x, (s.frame f).state = .draining → (s.frame f).drain = some d → d.timer = some x → x.reported = true →
      exec (.drainTimeoutExpiry f) s =
        .next { modFrame f (fun fr => { fr with
                  state := .sealed
                  drain := some { cursor := 0, broken := false, outstanding := 0, sums := { a := 0, b := 0 }
                                  timer := none } }) (unmarking f s) with
                sealQ := s.sealQ ++ [f] })

/-- R164, R77, R31, R165: a reported lane expiry voids the file of a RECEIVING lane with cause TIMEOUT, and the void ends when
it may; a reported hold expiry refuses the held announce: REFUSED answer, result REFUSED_HOLD, counted, LANE_ERR, off the wait
list, a WAITING lane MUTED, a VOIDING one with its mute mark set. -/
def Obligations.LaneExpiries : Prop :=
  ∀ (s : State) (l : LaneNo), s.resetLow = false →
    (∀ x f e, (s.lane l).state = .receiving → (s.lane l).timer = some x → x.reported = true →
      (s.lane l).file = some (f, e) → (s.lane l).lastWrite = none →
        ∃ t, exec (.laneTimerExpiry l) s = .next t ∧
          exec (.voidEnd l)
            (modLane l (fun ln => { ln with
                state := .voiding, voidCause := some .timeout, timer := none, held := none, muteMark := false })
              (modEntry f e (fun en => if en.state = .placed then { en with state := .voiding } else en) s)) = .next t) ∧
    (∀ h r, (s.lane l).held = some h → h.timer.reported = true → s.findRecord .write h.slot = some r →
      exec (.holdTimeoutExpiry l) s =
        .next { modLane l (fun ln =>
          { ln.pushResult
              { code := .refusedHold, placed := false, sumGiven := h.ann.sumGiven, sealAfter := h.ann.sealAfter
                mismatch := false, entry := 0, serial := 0, off := 0, sumA := 0, sumB := 0
                wtag := h.ann.wtag, len := BitVec.ofNat 64 h.ann.len }
            with refusedAnn := ln.refusedAnn + 1, held := none
                 state := if ln.state = .waiting then .muted else ln.state
                 muteMark := decide (ln.state ≠ .waiting) }) s with
          waitList := s.waitList.filter (· != l)
          attn := { s.attn with laneErr := true }
          port := { s.port with
            writes := s.port.writes.filter (fun x => x.slot != h.slot)
            answers := s.port.answers ++ [{ stream := .write, tag := r.tag, code := .refused, data := [] }] } })

/-! ## Run control and the link -/

/-- R177, R180: in STOPPING with no lane WAITING, RECEIVING or VOIDING, no frame OPEN or SEALING and no job, the part enters
STOPPED and the action finishes with DONE; a core reset finishes with DONE once no request taken before it is unanswered and no
fill burst issued before it outstanding. Otherwise nothing changes (the model's choice for a command that is not enabled, log
2). -/
def Obligations.StopAndResetEnd : Prop :=
  ∀ s : State, s.resetLow = false →
    let quiet := (∀ l, (s.lane l).state ≠ .waiting ∧ (s.lane l).state ≠ .receiving ∧ (s.lane l).state ≠ .voiding) ∧
      (∀ f, (s.frame f).state ≠ .opened ∧ (s.frame f).state ≠ .sealing) ∧ s.fill.queue = []
    let clear := (∀ r ∈ s.port.writes ++ s.port.reads, r.preReset = false) ∧
      ∀ o ∈ s.port.outstanding, o.origin ≠ .dropped
    (∀ a, s.run.global = .stopping → quiet → s.run.running = some a →
      exec .stopComplete s =
        .next { s with run := { s.run with global := .stopped, running := none, last := some (.done, a) } }) ∧
    (¬ (s.run.global = .stopping ∧ quiet) → exec .stopComplete s = .next s) ∧
    (s.run.running = some .resetCore → clear →
      exec .coreClear s = .next { s with run := { s.run with running := none, last := some (.done, .resetCore) } }) ∧
    (¬ (s.run.running = some .resetCore ∧ clear) → exec .coreClear s = .next s)

/-- R182 to R185, R180, R181, R190, R203, R204: a frame of a wrong byte count, with a broken last byte or with a CRC that fails
is discarded: LINK_ERR, and the pending answer BAD_CRC with the item and index bytes that arrived; a frame without an SCK edge
is ignored. A checked request that R185 does not allow is answered BAD_ITEM with zero data, and while a core reset runs every
ACT is answered REFUSED_BUSY with zero data. Nothing else changes. SDO shows the bits of the outgoing frame, most significant
first, then zeros, and is not driven while CS# is high or RESET# low; SCK is ignored while CS# is high. The outgoing frame is
the status summary, the response with the index modulo 32, the item, the data little-endian, and the CRC-8 of these. The model's
choices: that a discarded frame of two bytes echoes the item that arrived, with index 0 (log 21); that the discard command
leaves the state on a good frame (log 2); that a frame is one command (log 15); and that BAD_ITEM carries the SPI frames that no
other row takes (log 9). -/
def Obligations.LinkFramesAnswered : Prop :=
  (∀ s : State, s.resetLow = false →
    (∀ (whole : List Byte) (loose : List Bool),
      let bits := s.link.receiver ++ (bitsOfBytes whole ++ loose)
      let bytes := bytesOfBits bits
      let bad := bits.length ≠ 64 ∨ some (crc8 (bytes.take 7)) ≠ bytes[7]?
      (bits ≠ [] → bad → exec (.linkFrameDiscard whole loose) s =
        .next (linkAnswering .badCrc ((bytes[1]?).getD 0) ((bytes[2]?).getD 0) 0
          { s with attn := { s.attn with linkErr := true } })) ∧
      (bits = [] → exec (.linkFrameDiscard whole loose) s = .next { s with link := { s.link with sending := none } }) ∧
      (¬ bad → exec (.linkFrameDiscard whole loose) s = .next s)) ∧
    (∀ r : LinkRequest,
      ((r.op = 1 ∧ readAllowed r.item r.index = false) ∨ (r.op = 2 ∧ writeAllowed r.item = false) ∨
        (r.op = 3 ∧ actAllowed r.item r.index = false) ∨ (r.op ≠ 1 ∧ r.op ≠ 2 ∧ r.op ≠ 3)) →
      exec (.badItem r) s = .next (linkAnswering .badItem r.item r.index 0 s)) ∧
    (s.run.running = some .resetCore → ∀ i : Byte,
      let busy (item : Byte) : Host.Outcome State Fault Refusal := .next (linkAnswering .refusedBusy item i 0 s)
      exec (.start i) s = busy 0x40 ∧ exec (.stop i) s = busy 0x41 ∧ exec (.halt i) s = busy 0x42 ∧
        exec (.enterConfig i) s = busy 0x43 ∧ exec (.resetCore i) s = busy 0x44 ∧
        (i.toNat ≤ 3 → exec (.flushClass i) s = busy 0x45) ∧ exec (.release i) s = busy 0x46 ∧
        exec (.discard i) s = busy 0x47 ∧ exec (.redrain i) s = busy 0x48)) ∧
  (∀ s : State,
    let flags := s.attn.laneErr.toNat * 1 + s.attn.imageFault.toNat * 2 + s.attn.linkErr.toNat * 4 +
      s.attn.frameShort.toNat * 8 + s.attn.packHeld.toNat * 16
    let global := match s.run.global with | .config => 0 | .running => 1 | .stopping => 2 | .stopped => 3
    let stage := if s.run.running = none then 0 else 1
    let resp := match s.link.answer.resp with
      | .ok => 0 | .refusedState => 1 | .refusedBusy => 2 | .badItem => 3 | .badCrc => 4
    let body : List Byte :=
      [BitVec.ofNat 8 (flags + 32 * global + 128 * stage), BitVec.ofNat 8 (resp + 8 * (s.link.answer.index.toNat % 32)),
       s.link.answer.item, s.link.answer.data.extractLsb' 0 8, s.link.answer.data.extractLsb' 8 8,
       s.link.answer.data.extractLsb' 16 8, s.link.answer.data.extractLsb' 24 8]
    outgoingFrame s = body ++ [crc8 body]) ∧
  (crc8 [] = 0 ∧ ∀ (bytes : List Byte) (b : Byte),
    crc8 (bytes ++ [b]) =
      (List.replicate 8 ()).foldl (fun r _ => if r.msb then (r <<< 1) ^^^ 0x07 else r <<< 1) (crc8 bytes ^^^ b)) ∧
  ∀ (s : State) (bits : List Bool), s.link.receiver = [] →
    (s.resetLow = true → sdo (sckPulses bits (csFalls s)) = none) ∧
    (s.link.sending = none → sdo s = none ∧ sckPulses bits s = s ∧
      (sckPulses bits (csFalls s)).link.receiver = bits ∧ (outgoingFrame s).length = 8 ∧
      (s.resetLow = false → sdo (sckPulses bits (csFalls s)) =
        some (((outgoingFrame s)[bits.length / 8]?.getD 0).getLsbD (7 - bits.length % 8))))

/-- R185 to R187, R189, R134, R61, R104, R105, R39: a READ without effect is answered OK with the item's value at that moment
and changes nothing else: every configuration item, and every word of every status item. That the BAD_ITEM command carries these
READs, which have no row of their own, is the model's choice (log 9). -/
def Obligations.StatusItemsRead : Prop :=
  ∀ (s : State) (item index : Byte) (data : Word), s.resetLow = false → readAllowed item index = true →
    readActs item index = false →
    let actionCode (a : Action) : Word := match a with
      | .start => 0x40 | .stop => 0x41 | .halt => 0x42 | .enterConfig => 0x43 | .resetCore => 0x44
      | .flushClass => 0x45 | .release => 0x46 | .discard => 0x47 | .redrain => 0x48
    let low (x : Serial) : Word := x.extractLsb' 0 32
    let high (x : Serial) : Word := (x.extractLsb' 32 16).setWidth 32
    ∃ v : Word,
      exec (.badItem { op := 1, item := item, index := index, data := data }) s =
        .next (linkAnswering .ok item index v s) ∧
      (∀ c : ConfigItem, item = c.code → v = s.items.get c) ∧
      (item = 0x01 → v = match s.run.global with | .config => 0 | .running => 1 | .stopping => 2 | .stopped => 3) ∧
      (item = 0x02 →
        (index = 0 → v = if s.run.running = none then 0 else 1) ∧
        (index = 1 → v = match s.run.running with | none => 0 | some a => actionCode a) ∧
        (index = 2 → v = match s.run.last with
          | none => 0
          | some (r, _) => match r with | .done => 1 | .layout => 2 | .wrongState => 3 | .nothing => 4 | .notEmpty => 5) ∧
        (index = 3 → v = match s.run.last with | none => 0 | some (_, a) => actionCode a)) ∧
      (item = 0x03 → v = s.tick) ∧
      (item = 0x05 → v = [s.run.opened, s.run.sealedN, s.run.drainedN, s.run.heldN].getD index.toNat 0) ∧
      (∀ f : FrameNo, item = 0x08 → index.toNat = f.val → v = match (s.frame f).state with
        | .free => 0 | .opened => 1 | .sealing => 2 | .sealed => 3 | .draining => 4 | .drained => 5 | .held => 6) ∧
      (∀ (f : FrameNo) (w : Nat), item = 0x09 → index.toNat = f.val + 8 * w →
        (w = 0 → v = low (s.frame f).serial) ∧ (w = 1 → v = high (s.frame f).serial) ∧
        (w = 2 → v = BitVec.ofNat 32 (s.frame f).entries.length) ∧ (w = 3 → v = BitVec.ofNat 32 (s.frame f).cursor) ∧
        (w = 4 → v = BitVec.ofNat 32 ((s.frame f).imageLength.getD 0)) ∧
        (w = 5 → v = match (s.frame f).sealCause with
          | none => 0 | some .threshold => 1 | some .entryLimit => 2 | some .misfit => 3 | some .age => 4
          | some .sealAfter => 5 | some .flush => 6 | some .stop => 7 | some .halt => 8) ∧
        (w = 6 → v = BitVec.ofNat 32 ((if (s.frame f).imageFault then 1 else 0) +
          match (s.frame f).cls with | none => 0 | some c => 2 + 4 * c.val)) ∧
        (w = 7 → v = BitVec.ofNat 32 (s.frame f).sums.a) ∧ (w = 8 → v = BitVec.ofNat 32 (s.frame f).sums.b)) ∧
      (∀ p, item = 0x0A → s.lastPop = some p → (index = 1 → v = BitVec.ofNat 32 p.frame.val) ∧
        (index = 2 → v = low p.serial) ∧ (index = 3 → v = high p.serial) ∧
        (index = 4 → v = BitVec.ofNat 32 p.imageLength)) ∧
      (item = 0x0A → s.lastPop = none → v = if index = 1 then 0xFFFFFFFF else 0) ∧
      (∀ (l : LaneNo) (w : Nat), item = 0x0C → index.toNat = l.val + 16 * w →
        (w = 0 → v = match (s.lane l).state with
          | .idle => 0 | .waiting => 1 | .receiving => 2 | .voiding => 3 | .muted => 4) ∧
        (w = 1 → v = match (s.lane l).held.map (·.reason) with
          | none => 0 | some .noFrame => 1 | some .jobLimit => 2 | some .voiding => 3) ∧
        (w = 2 → v = BitVec.ofNat 32 (s.lane l).extents.length) ∧
        (w = 3 → v = BitVec.ofNat 32 (s.lane l).results.length)) ∧
      (∀ (l : LaneNo) (c : Nat), item = 0x0D → index.toNat = l.val + 16 * c →
        v = [(s.lane l).completed, (s.lane l).voided, (s.lane l).refusedAnn, (s.lane l).clamped, (s.lane l).refusedWr,
             (s.lane l).dropped.setWidth 32].getD c 0) ∧
      (item = 0x0E → v = BitVec.ofNat 32 (s.sel.entry + 65536 * s.sel.frame.val)) ∧
      (item = 0x0F →
        ((s.frame s.sel.frame).state = .free → v = 0) ∧ (s.entry? s.sel.frame s.sel.entry = none → v = 0) ∧
        ∀ en, s.entry? s.sel.frame s.sel.entry = some en → (s.frame s.sel.frame).state ≠ .free →
          (index = 0 → v = match en.state with | .placed => 1 | .voiding => 2 | .complete => 3 | .void => 4) ∧
          (index = 1 → v = BitVec.ofNat 32 en.lane.val) ∧ (index = 2 → v = BitVec.ofNat 32 en.cls.val) ∧
          (index = 3 → v = BitVec.ofNat 32 ((if en.sumGiven then 1 else 0) + (if en.sealAfter then 2 else 0) +
            (if en.mismatch then 4 else 0))) ∧
          (index = 4 → v = BitVec.ofNat 32 en.off) ∧ (index = 5 → v = BitVec.ofNat 32 en.len) ∧
          (index = 6 → v = BitVec.ofNat 32 en.received) ∧
          (index = 7 → v = match en.expected with | none => 0 | some x => x.1) ∧
          (index = 8 → v = match en.expected with | none => 0 | some x => x.2) ∧
          (index = 9 → v = BitVec.ofNat 32 en.sums.a) ∧ (index = 10 → v = BitVec.ofNat 32 en.sums.b) ∧
          (index = 11 → v = en.arrival) ∧ (index = 12 → v = en.endTick.getD 0) ∧
          (index = 13 → v = en.wtag.extractLsb' 0 32) ∧ (index = 14 → v = en.wtag.extractLsb' 32 32) ∧
          (∀ k, k < 8 → index.toNat = 15 + k → v = en.digest.extractLsb' (32 * k) 32) ∧
          (index = 23 → v = low (s.frame s.sel.frame).serial) ∧ (index = 24 → v = high (s.frame s.sel.frame).serial))

/-- R186, R192, R104: the items have the codes of R186; a WRITE sets a configuration item to the value clamped to its range and
answers it, a layout item outside CONFIG keeping its value with REFUSED_STATE; ATTN# follows a write of ATTN_MASK; INDEX_SELECT
takes its halves clamped to 7 and 2,047 and answers OK, with a data word that the spec leaves open (log 25). -/
def Obligations.ItemWrites : Prop :=
  (∀ item : ConfigItem, item.code = match item with
    | .apertureBaseLo => 0x20 | .apertureBaseHi => 0x21 | .frameBaseLo => 0x22 | .frameBaseHi => 0x23
    | .frameSizeCode => 0x24 | .frameCount => 0x25 | .classEnable => 0x26 | .packSerialBaseLo => 0x27
    | .packSerialBaseHi => 0x28 | .sealThreshold => 0x30 | .ageLimit => 0x31 | .laneTimeout => 0x32
    | .holdTimeout => 0x33 | .drainTimeout => 0x34 | .autoRelease => 0x35 | .attnMask => 0x36) ∧
  ∀ (s : State) (index : Byte) (data : Word), s.resetLow = false →
    (∀ item : ConfigItem, item ≠ .ageLimit → item ≠ .laneTimeout → item ≠ .holdTimeout → item ≠ .drainTimeout →
      let range : Nat × Nat := match item with
        | .apertureBaseLo | .frameBaseLo | .packSerialBaseLo => (0, 4294967295)
        | .apertureBaseHi | .frameBaseHi | .packSerialBaseHi => (0, 65535)
        | .frameSizeCode => (24, 30) | .frameCount => (2, 8) | .classEnable => (0, 15) | .sealThreshold => (1, 256)
        | .autoRelease => (0, 1) | .attnMask => (0, 31)
        | .ageLimit | .laneTimeout | .holdTimeout | .drainTimeout => (0, 0)
      let lo := range.1
      let hi := range.2
      let v : Word := if data.toNat < lo then BitVec.ofNat 32 lo else if hi < data.toNat then BitVec.ofNat 32 hi else data
      (item.code.toNat < 0x30 → s.run.global ≠ .config →
        exec (.configItemWrite item index data) s =
          .next (linkAnswering .refusedState item.code index (s.items.get item) s)) ∧
      ((0x30 ≤ item.code.toNat ∨ s.run.global = .config) →
        ∃ it : Items, it.get item = v ∧ (∀ k, k ≠ item → it.get k = s.items.get k) ∧
          exec (.configItemWrite item index data) s = .next (linkAnswering .ok item.code index v { s with items := it }))) ∧
    (∃ t, exec (.attnMaskWrite index data) s = .next t ∧
      t = linkAnswering .ok 0x36 index t.items.attnMask { s with items := { s.items with attnMask := t.items.attnMask } } ∧
      t.items.attnMask.toNat = min data.toNat 31 ∧
      (attnLow t = true ↔
        (s.attn.laneErr = true ∧ t.items.attnMask.getLsbD 0 = false) ∨
        (s.attn.imageFault = true ∧ t.items.attnMask.getLsbD 1 = false) ∨
        (s.attn.linkErr = true ∧ t.items.attnMask.getLsbD 2 = false) ∨
        (s.attn.frameShort = true ∧ t.items.attnMask.getLsbD 3 = false) ∨
        (s.attn.packHeld = true ∧ t.items.attnMask.getLsbD 4 = false))) ∧
    (∃ (word : Word) (x : Selection),
      x.frame.val = min (data.toNat / 65536) 7 ∧ x.entry = min (data.toNat % 65536) 2047 ∧
      exec (.indexSelect index data) s =
        .next (linkAnswering .ok 0x0E index word { s with sel := x, free := s.free + 1 }))

/-- R167, R162: a write of a limit sets it to the value clamped to its range, in any global state, answers it, and tests every
running deadline of its kind against the new limit at once; starts and first-write flags, and everything else, stay. -/
def Obligations.TimerLimitWrites : Prop :=
  ∀ (s : State) (item : LimitItem) (index : Byte) (data : Word), s.resetLow = false →
    let range : Nat × Nat := match item with
      | .ageLimit => (0, 86400000)
      | .laneTimeout => (10, 600000)
      | .holdTimeout => (10, 600000)
      | .drainTimeout => (100, 3600000)
    let lo := range.1
    let hi := range.2
    let v : Word := if data.toNat < lo then BitVec.ofNat 32 lo else if hi < data.toNat then BitVec.ofNat 32 hi else data
    let test (limit : Nat) (x : Timer) : Timer :=
      { x with reported := x.reported || decide (limit ≤ (s.tick - x.start).toNat) }
    ∃ t, exec (.timerLimitWrite item index data) s = .next t ∧
      t.items.get item.configItem = v ∧ (∀ k, k ≠ item.configItem → t.items.get k = s.items.get k) ∧
      t.link = (linkAnswering .ok item.configItem.code index v s).link ∧
      (∀ l, t.lane l = { s.lane l with
        timer := if item = .laneTimeout then
            (s.lane l).timer.map (test (if (s.lane l).firstWrite then v.toNat else 4 * v.toNat))
          else (s.lane l).timer
        held := if item = .holdTimeout then
            (s.lane l).held.map fun h => { h with timer := test v.toNat h.timer }
          else (s.lane l).held }) ∧
      (∀ f, t.frame f = { s.frame f with
        ageReported := (s.frame f).ageReported ||
          decide (item = .ageLimit ∧ (s.frame f).state = .opened ∧ v ≠ 0 ∧
            v.toNat ≤ (s.tick - (s.frame f).openTick).toNat)
        drain := if item = .drainTimeout then
            (s.frame f).drain.map fun d => { d with timer := d.timer.map (test v.toNat) }
          else (s.frame f).drain }) ∧
      { t with items := s.items, link := s.link, lanes := s.lanes, frames := s.frames } = s

/-- R191, R190, R134, R136: the two READs with an effect. ATTN_CAUSE answers the sum of the weights of the set flags and clears
the three event flags, FRAME_SHORT when no lane waits for a frame, and PACK_HELD when no frame is HELD. SEAL_NEXT with index 0
pops the head of the seal queue, which stays SEALED, into the last-pop record and answers its frame number; on an empty queue
the record shows EMPTY and the answer is 0xFFFF_FFFF. SEALRDY is high while the seal queue holds a frame, so it stays high after
a pop exactly when another frame waits. -/
def Obligations.ReadsWithAnEffect : Prop :=
  ∀ s : State, s.resetLow = false →
    (sealRdy s = true ↔ ∃ f, f ∈ s.sealQ) ∧
    (∀ t f rest, s.sealQ = f :: rest → exec .sealNextPop s = .next t → (sealRdy t = true ↔ rest ≠ [])) ∧
    (∀ index : Byte, exec (.attnCauseRead index) s = .next (linkAnswering .ok 0x04 index
      (BitVec.ofNat 32 (s.attn.laneErr.toNat * 1 + s.attn.imageFault.toNat * 2 + s.attn.linkErr.toNat * 4 +
        s.attn.frameShort.toNat * 8 + s.attn.packHeld.toNat * 16))
      { s with attn := { laneErr := false, imageFault := false, linkErr := false
                         frameShort := s.attn.frameShort && decide (s.waitList ≠ [])
                         packHeld := s.attn.packHeld && decide (∃ f, (s.frame f).state = .held) } })) ∧
    (∀ f rest, s.sealQ = f :: rest →
      exec .sealNextPop s = .next (linkAnswering .ok 0x0A 0 (BitVec.ofNat 32 f.val)
        { s with sealQ := rest
                 lastPop := some { frame := f, serial := (s.frame f).serial
                                   imageLength := (s.frame f).imageLength.getD 0 } })) ∧
    (s.sealQ = [] →
      exec .sealNextPop s = .next (linkAnswering .ok 0x0A 0 0xFFFFFFFF { s with lastPop := none }))

/-! ## Actions -/

/-- R174, R178, R173: with no action running, START in CONFIG enters RUNNING and loads the next serial when APERTURE_BASE is a
multiple of 16 × F, FRAME_BASE one of F, and the regions do not overlap, else gives LAYOUT; in STOPPED it enters RUNNING.
ENTER_CONFIG in STOPPED enters CONFIG and puts every MUTED lane in IDLE when every frame is FREE, else gives NOT_EMPTY.
Elsewhere both give WRONG_STATE; while a stop runs both are REFUSED_BUSY. -/
def Obligations.StartAndEnterConfig : Prop :=
  ∀ (s : State) (i : Byte), s.resetLow = false →
    let gives (a : Action) (item : Byte) (r : ActionResult) (code : Nat) (u : State) : Host.Outcome State Fault Refusal :=
      .next (linkAnswering .ok item i (BitVec.ofNat 32 code) (finished a r u))
    let sound := (apertureBase s).toNat % (16 * frameSize s) = 0 ∧ (frameBase s).toNat % frameSize s = 0 ∧
      16 * frameSize s ≤ (frameBase s - apertureBase s).toNat ∧
      frameCount s * frameSize s ≤ (apertureBase s - frameBase s).toNat
    ((s.run.running = some .stop ∨ s.run.running = some .halt) →
      exec (.start i) s = .next (linkAnswering .refusedBusy 0x40 i 0 s) ∧
        exec (.enterConfig i) s = .next (linkAnswering .refusedBusy 0x43 i 0 s)) ∧
    (s.run.running = none →
      (s.run.global = .config → sound → exec (.start i) s = gives .start 0x40 .done 1
        { s with run := { s.run with global := .running }, nextSerial := packSerialBase s }) ∧
      (s.run.global = .config → ¬ sound → exec (.start i) s = gives .start 0x40 .layout 2 s) ∧
      (s.run.global = .stopped → exec (.start i) s = gives .start 0x40 .done 1
        { s with run := { s.run with global := .running } }) ∧
      ((s.run.global = .running ∨ s.run.global = .stopping) →
        exec (.start i) s = gives .start 0x40 .wrongState 3 s) ∧
      (s.run.global = .stopped → (∀ f, (s.frame f).state = .free) →
        ∃ t, exec (.enterConfig i) s = gives .enterConfig 0x43 .done 1 t ∧ t.run = { s.run with global := .config } ∧
          (∀ l, t.lane l =
            { s.lane l with state := if (s.lane l).state = .muted then .idle else (s.lane l).state }) ∧
          { t with run := s.run, lanes := s.lanes } = s) ∧
      (s.run.global = .stopped → (∃ f, (s.frame f).state ≠ .free) →
        exec (.enterConfig i) s = gives .enterConfig 0x43 .notEmpty 5 s) ∧
      (s.run.global ≠ .stopped → exec (.enterConfig i) s = gives .enterConfig 0x43 .wrongState 3 s))

/-- R175 to R177, R32, R55, R77, R173: STOP and HALT in RUNNING enter STOPPING, seal every OPEN frame with their cause, empty
the class table, refuse every held announce, a WAITING lane MUTED and a VOIDING one marked mute, and leave every other frame and
lane as it is; HALT also voids the file of every RECEIVING lane with cause HALT. The part is STOPPING and answers 0, or, when
the stop's conditions hold, STOPPED with DONE. HALT in STOPPING takes over from STOP and voids the same way; STOP and HALT while
HALT runs, and STOP while STOP runs, are REFUSED_BUSY. In CONFIG and STOPPED both give WRONG_STATE. That the DIRECTORY jobs
stand in ascending order of their frames, the VOID_FILL jobs in ascending order of their lanes, and the DIRECTORY jobs before
the VOID_FILL jobs, is the model's choice (log 20). -/
def Obligations.StopBegins : Prop :=
  ∀ (s : State) (i : Byte), s.resetLow = false →
    let answers (item : Byte) (t : State) : Host.Outcome State Fault Refusal :=
      .next (linkAnswering .ok item i (if t.run.running = none then 1 else 0) t)
    (s.run.running = none → s.run.global = .running → LanesOk s → ClassTableOk s →
      (∃ u t, StopBegun .stop .stop s u ∧ exec .stopComplete u = .next t ∧ exec (.stop i) s = answers 0x41 t) ∧
      (∃ u v t, StopBegun .halt .halt s u ∧ HaltVoids u v ∧ exec .stopComplete v = .next t ∧
        exec (.halt i) s = answers 0x42 t)) ∧
    (s.run.running = some .stop → s.run.global = .stopping →
      exec (.stop i) s = .next (linkAnswering .refusedBusy 0x41 i 0 s) ∧
      ∃ v t, HaltVoids { s with run := { s.run with running := some .halt } } v ∧ exec .stopComplete v = .next t ∧
        exec (.halt i) s = answers 0x42 t) ∧
    (s.run.running = some .halt →
      exec (.stop i) s = .next (linkAnswering .refusedBusy 0x41 i 0 s) ∧
      exec (.halt i) s = .next (linkAnswering .refusedBusy 0x42 i 0 s)) ∧
    (s.run.running = none → (s.run.global = .config ∨ s.run.global = .stopped) →
      exec (.stop i) s = .next (linkAnswering .ok 0x41 i 3 (finished .stop .wrongState s)) ∧
      exec (.halt i) s = .next (linkAnswering .ok 0x42 i 3 (finished .halt .wrongState s)))

/-- R179, R16, R180: RESET_CORE puts every block but the ports and the link in its initial state, keeping the items and the
selection: CONFIG, BUSY with the action, tick 0, every counter 0. It answers the held requests REFUSED, keeps the forwarded ones
for the buffer's answers, and orphans the fill bursts; with nothing to wait for it is finished at once with DONE. -/
def Obligations.ResetCore : Prop :=
  ∀ (s : State) (i : Byte), TakesFrameAction s → NumbersOk s →
    let keeps (rs : List OpenReq) : List OpenReq :=
      (rs.filter fun r => r.stage == .forwarded).map fun r => { r with preReset := true }
    ∃ t, exec (.resetCore i) s = .next t ∧
      (∀ l, t.lane l = Lane.reset) ∧ (∀ f, t.frame f = Frame.free) ∧ (∀ c, t.classFrame c = none) ∧ t.waitList = [] ∧
      t.nextSerial = packSerialBase s ∧ t.fill = { queue := [], progress := none } ∧ t.sealQ = [] ∧ t.lastPop = none ∧
      t.owed = 0 ∧ t.tick = 0 ∧ t.attn = AttnFlags.clear ∧ t.items = s.items ∧ t.sel = s.sel ∧
      t.pending = s.pending ∧ t.run.opened = 0 ∧ t.run.sealedN = 0 ∧ t.run.drainedN = 0 ∧ t.run.heldN = 0 ∧
      t.run.global = .config ∧ t.port.writes = keeps s.port.writes ∧ t.port.reads = keeps s.port.reads ∧
      t.port.passQ = s.port.passQ ∧ t.port.late = s.port.late ∧ t.port.untaken = s.port.untaken ∧
      t.port.lastGrant = .fill ∧ sealRdy t = false ∧
      t.port.outstanding = s.port.outstanding.map (fun o =>
        match o.origin with
        | .burst _ _ _ => { o with origin := .dropped }
        | _ => o) ∧
      (∀ r ∈ s.port.writes, r.stage = .held →
        ({ stream := .write, tag := r.tag, code := .refused, data := [] } : FabricAnswer) ∈ t.port.answers) ∧
      (∀ r ∈ s.port.writes, r.stage = .pendingOwner .okay [] →
        ({ stream := .write, tag := r.tag, code := .okay, data := [] } : FabricAnswer) ∈ t.port.answers) ∧
      (if t.port.writes = [] ∧ t.port.reads = [] ∧ ∀ o ∈ t.port.outstanding, o.origin ≠ .dropped then
        t.run.running = none ∧ t.run.last = some (.done, .resetCore) ∧
          t.link = (linkAnswering .ok 0x44 i 1 s).link
      else
        t.run.running = some .resetCore ∧ t.run.last = s.run.last ∧ t.link = (linkAnswering .ok 0x44 i 0 s).link)

/-- R55, R54, R155, R188: FLUSH_CLASS of a class with an OPEN frame seals it with cause FLUSH, result DONE, else gives NOTHING;
an index above 3 is BAD_ITEM. REDRAIN of a HELD frame moves it to SEALED at the tail of the seal queue with its drain state
reset, result DONE; of any other frame it gives WRONG_STATE. -/
def Obligations.FlushAndRedrain : Prop :=
  ∀ (s : State) (i : Byte), TakesFrameAction s →
    (∀ (c : ClassNo) (f : FrameNo), i.toNat = c.val → s.classFrame c = some f → (s.frame f).state = .opened →
      (s.frame f).cls = some c →
      ∃ u, exec (.sealReady f) (setClassFrame c none
          (modFrame f (fun fr => { fr with state := .sealing, sealCause := some .flush, sealTick := some s.tick
                                           stage := .gathering, ageReported := false }) s)) = .next u ∧
        exec (.flushClass i) s = .next (linkAnswering .ok 0x45 i 1 (finished .flushClass .done u))) ∧
    (∀ c : ClassNo, i.toNat = c.val → s.classFrame c = none →
      exec (.flushClass i) s = .next (linkAnswering .ok 0x45 i 4 (finished .flushClass .nothing s))) ∧
    (3 < i.toNat → exec (.flushClass i) s = .next (linkAnswering .badItem 0x45 i 0 s)) ∧
    (∀ f : FrameNo, i.toNat = f.val → f.val < frameCount s → (s.frame f).state = .held →
      exec (.redrain i) s = .next (linkAnswering .ok 0x48 i 1 (finished .redrain .done
        { modFrame f (fun fr => { fr with
            state := .sealed
            drain := some { cursor := 0, broken := false, outstanding := 0, sums := { a := 0, b := 0 }
                            timer := none } }) s with
          sealQ := s.sealQ ++ [f] }))) ∧
    ((frameCount s ≤ i.toNat ∨ ∃ f : FrameNo, i.toNat = f.val ∧ (s.frame f).state ≠ .held) →
      exec (.redrain i) s = .next (linkAnswering .ok 0x48 i 3 (finished .redrain .wrongState s)))

/-- R152, R154, R156, R58, R59, R133: RELEASE of a DRAINED frame, and DISCARD of a SEALED, DRAINED or HELD one, clears its
record, takes it out of the seal queue and owes one pulse, and a wake pass visits the waiting lanes in their order, result DONE;
of any other frame both give WRONG_STATE. A pulse owed is given by FREE_PULSE, one at a time: one command for a whole pulse is
the model's choice (log 12). -/
def Obligations.FramesFreed : Prop :=
  ∀ (s : State) (i : Byte), TakesFrameAction s →
    (∀ f : FrameNo, i.toNat = f.val → f.val < frameCount s →
      ((s.frame f).state = .drained →
        ∃ v, WakePass s.waitList { modFrame f (fun _ => Frame.free) s with owed := s.owed + 1 } v ∧
          exec (.release i) s = .next (linkAnswering .ok 0x46 i 1 (finished .release .done v))) ∧
      (((s.frame f).state = .sealed ∨ (s.frame f).state = .drained ∨ (s.frame f).state = .held) →
        ∃ v, WakePass s.waitList { modFrame f (fun _ => Frame.free) s with
            owed := s.owed + 1, sealQ := s.sealQ.filter (· != f) } v ∧
          exec (.discard i) s = .next (linkAnswering .ok 0x47 i 1 (finished .discard .done v)))) ∧
    (∀ f : FrameNo, i.toNat = f.val → f.val < frameCount s → s.waitList = [] →
      ((s.frame f).state = .drained →
        exec (.release i) s = .next (linkAnswering .ok 0x46 i 1 (finished .release .done
          { modFrame f (fun _ => Frame.free) s with owed := s.owed + 1 }))) ∧
      (((s.frame f).state = .sealed ∨ (s.frame f).state = .drained ∨ (s.frame f).state = .held) →
        exec (.discard i) s = .next (linkAnswering .ok 0x47 i 1 (finished .discard .done
          { modFrame f (fun _ => Frame.free) s with owed := s.owed + 1, sealQ := s.sealQ.filter (· != f) })))) ∧
    ((frameCount s ≤ i.toNat ∨ ∃ f : FrameNo, i.toNat = f.val ∧ (s.frame f).state ≠ .drained) →
      exec (.release i) s = .next (linkAnswering .ok 0x46 i 3 (finished .release .wrongState s))) ∧
    ((frameCount s ≤ i.toNat ∨ ∃ f : FrameNo, i.toNat = f.val ∧
        (s.frame f).state ≠ .sealed ∧ (s.frame f).state ≠ .drained ∧ (s.frame f).state ≠ .held) →
      exec (.discard i) s = .next (linkAnswering .ok 0x47 i 3 (finished .discard .wrongState s))) ∧
    exec .freePulse s =
      .next (if s.owed = 0 then s else { s with owed := s.owed - 1, pulses := s.pulses + 1 })

/-- R59, R60, R50, R51, R28, R156: a frame freed by RELEASE while the oldest lane of the wait list can use it is opened again in
the same step for that lane's class, with its file as entry 0; the lane enters RECEIVING, or IDLE with its file complete when
its length is 0, leaves the list, and its write is answered OKAY. One visit hands the lane's announce to placement when a frame
is FREE or the OPEN frame of its class fits it, in which frame it is then placed, and else passes the lane over: it keeps its
place and its wait start. -/
def Obligations.FreedFrameWakesALane : Prop :=
  (∀ (s : State) (l : LaneNo) (h : Held), (s.lane l).held = some h → h.reason = .noFrame →
    (NoneFree s → (∀ f, s.classFrame h.ann.cls = some f → (s.frame f).state = .opened → ¬ Fits s f h.ann.len) →
      wakeLane l s = s) ∧
    (∀ f r, s.classFrame h.ann.cls = some f → (s.frame f).state = .opened → (s.frame f).cls = some h.ann.cls →
      Fits s f h.ann.len → s.laneJobs l ≤ 1 → h.ann.len ≠ 0 → s.findRecord .write h.slot = some r →
      PlacedIn s (wakeLane l s) l h.ann f ∧ AnnounceAnswered s (wakeLane l s) h.slot r.tag)) ∧
  ∀ (s : State) (i : Byte) (f : FrameNo) (l : LaneNo) (rest : List LaneNo) (h : Held) (r : OpenReq),
    TakesFrameAction s → i.toNat = f.val → f.val < frameCount s → (s.frame f).state = .drained →
    (∀ g : FrameNo, g.val < f.val → (s.frame g).state ≠ .free) →
    s.waitList = l :: rest → l ∉ rest → (s.lane l).held = some h → h.reason = .noFrame →
    s.laneJobs l + (if h.ann.len = 0 then 2 else 1) ≤ 2 → s.classFrame h.ann.cls = none →
    s.findRecord .write h.slot = some r →
      ∃ t, exec (.release i) s = .next t ∧ t.owed = s.owed + 1 ∧
        (t.frame f).serial = s.nextSerial ∧ (t.frame f).openTick = s.tick ∧ l ∉ t.waitList ∧
        (h.ann.len ≠ 0 → (t.frame f).entries.head? = some (h.ann.entry l 4096 s.tick) ∧
          (t.lane l).state = .receiving ∧ (t.lane l).file = some (f, 0) ∧ (t.lane l).held = none) ∧
        (h.ann.len = 0 → (t.frame f).entries.head? = some (emptyEntry l h.ann 4096 s.tick) ∧
          t.lane l = afterEmpty h.ann 0 4096 s.nextSerial (s.lane l)) ∧
        ({ stream := .write, tag := r.tag, code := .okay, data := [] } : FabricAnswer) ∈ t.port.answers

/-- R181, R17, R160, R194: while RESET# is low the part takes no request, issues none and takes no link frame, SEALRDY is low
and ATTN# released; that an internal event or a buffer answer in that time leaves the state too is the model's choice (log 8),
as is that RESET# falling changes nothing but the pin and the tick, which is 0 (log 8). A hard reset puts every block in its
state after power-up and answers nothing, keeps the writes that wait on the fabric, and keeps the outstanding buffer tags for
the late answers it discards; that it also keeps the model's own record of answers, count of pulses and counter of free values
is the model's choice (logs 7, 10 and 12). -/
def Obligations.ResetPin : Prop :=
  ∀ s : State,
    exec .resetAssert s = .next { s with resetLow := true, tick := 0 } ∧
    (∀ c : Instr, c.wf = true → c ≠ .resetAssert → c ≠ .hardReset → s.resetLow = true → exec c s = .next s) ∧
    (s.resetLow = true → sealRdy s = false ∧ attnLow s = false) ∧
    exec .hardReset s =
      .next { State.reset with
        pending := s.pending, pulses := s.pulses, free := s.free
        port := { State.reset.port with
          late := s.port.late ++ s.port.outstanding.map (fun o => o.btag)
          untaken := s.port.untaken, answers := s.port.answers } }

/-! ## Link frames -/

/-- R182, R183, R185, R186, R188, R202: the bits of the eight bytes of the request frame that spells a command, each byte most
significant bit first, are that command again: the CRC passes, and op, item, index and data are read as they were sent. That
BAD_ITEM's command carries the READs without effect is the model's choice (log 9). -/
def Obligations.LinkFramesDecode : Prop :=
  ∀ (c : Instr) (r : LinkRequest), linkRequestOf c = some r → decodeLinkFrame (bitsOfBytes (encodeRequest r)) = some c

/-! ## Invariants that every step keeps -/

/-- R131, R43: every step keeps the seal queue, which holds only SEALED frames, each once. -/
def Obligations.SealQueueKept : Prop := ∀ s t : State, SealQueueOk s → step s = .next t → SealQueueOk t

/-- R19, R57: every step keeps the lanes in the shape of their states and the wait list naming exactly the lanes that hold an
announce with reason NO_FRAME. -/
def Obligations.LanesKept : Prop := ∀ s t : State, LanesOk s → step s = .next t → LanesOk t

/-- R83: every step keeps every stored sum in [0, P − 1]. -/
def Obligations.SumsKept : Prop := ∀ s t : State, SumsOk s → step s = .next t → SumsOk t

/-- R43: every step keeps the class table: class c's entry names exactly the OPEN frame bound to c. -/
def Obligations.ClassTableKept : Prop := ∀ s t : State, ClassTableOk s → step s = .next t → ClassTableOk t

/-- Every step keeps the numbers of open requests and the buffer tags apart (R9, R17, R2, R36, R66, R172; log 6), every list of
open requests, results and extents within its places, and the action status in agreement with the global state. -/
def Obligations.NumbersKept : Prop :=
  ∀ s t : State, step s = .next t → (NumbersOk s → NumbersOk t) ∧ (PlacesOk s → PlacesOk t) ∧ (RunOk s → RunOk t)

/-- R17, R40, R62, R122, R136, R138, R160, R167, R169, R181, R186, R194: the state after reset is sound: the invariants hold,
CONFIG, every lane IDLE, every frame FREE, tick 0, next serial 1, selection frame 0 entry 0, last pop EMPTY, no action and no
result, the counters 0, the last grant fill, every queue and list empty, the receiver empty, the pending answer OK with zeros,
and the items at their defaults. -/
def Obligations.ResetIsSound : Prop :=
  SealQueueOk State.reset ∧ LanesOk State.reset ∧ SumsOk State.reset ∧ ClassTableOk State.reset ∧
    RunOk State.reset ∧ PlacesOk State.reset ∧ NumbersOk State.reset ∧ State.reset.run.global = .config ∧
    (∀ l, State.reset.lane l = Lane.reset) ∧ (∀ f, State.reset.frame f = Frame.free) ∧ State.reset.tick = 0 ∧
    State.reset.attn = AttnFlags.clear ∧ State.reset.nextSerial = 1 ∧ State.reset.sel = { frame := 0, entry := 0 } ∧
    State.reset.lastPop = none ∧ State.reset.sealQ = [] ∧ sealRdy State.reset = false ∧ attnLow State.reset = false ∧
    State.reset.run.running = none ∧ State.reset.run.last = none ∧ State.reset.run.opened = 0 ∧
    State.reset.run.sealedN = 0 ∧ State.reset.run.drainedN = 0 ∧ State.reset.run.heldN = 0 ∧
    (∀ c, State.reset.classFrame c = none) ∧ State.reset.waitList = [] ∧ State.reset.owed = 0 ∧
    State.reset.fill = { queue := [], progress := none } ∧ State.reset.port.writes = [] ∧ State.reset.port.reads = [] ∧
    State.reset.port.passQ = [] ∧ State.reset.port.outstanding = [] ∧ State.reset.port.lastGrant = .fill ∧
    State.reset.resetLow = false ∧
    State.reset.link = { receiver := [], sending := none, answer := { resp := .ok, item := 0, index := 0, data := 0 } } ∧
    (∀ c : ConfigItem, State.reset.items.get c = match c with
      | .apertureBaseLo => 0 | .apertureBaseHi => 1 | .frameBaseLo => 0x80000000 | .frameBaseHi => 0
      | .frameSizeCode => 26 | .frameCount => 8 | .classEnable => 15 | .packSerialBaseLo => 1 | .packSerialBaseHi => 0
      | .sealThreshold => 240 | .ageLimit => 60000 | .laneTimeout => 2000 | .holdTimeout => 5000
      | .drainTimeout => 10000 | .autoRelease => 0 | .attnMask => 0)
end

