-- ==== Sys2Proof/Laws/Fabric.lean ====
section
/-! SUPPORT. What taking a write can do: one lemma per operation (R2, R3, R20). -/

namespace Sys2Proof.Machine

variable (s : State)

@[simp] theorem setUntaken_lane (ws : List WriteReq) (l : LaneNo) : (setUntaken ws s).lane l = s.lane l := rfl
@[simp] theorem setUntaken_frame (ws : List WriteReq) (f : FrameNo) : (setUntaken ws s).frame f = s.frame f := rfl
@[simp] theorem setUntaken_untaken (ws : List WriteReq) : (setUntaken ws s).port.untaken = ws := rfl

/-- The model's two names of the write of a source agree. -/
theorem sourceWrite_eq (src : WriteSource) : s.sourceWrite src = writeAt s src := by cases src <;> rfl

/-- The model's two names of the state after a write has left the fabric agree. -/
theorem leaveFabric_eq (src : WriteSource) : leaveFabric src s = afterLeaving src s := by cases src <;> rfl

/-- A write is addressed to lane `l` when its route is that lane's aperture, at some offset. -/
theorem addressedTo_iff (l : LaneNo) (w : WriteReq) : addressedTo s l w = true ↔ ∃ off, routeWrite s w = .aperture l off := by
  unfold addressedTo
  cases routeWrite s w <;> simp

/-- No write of a run is addressed to a lane when the model's test finds none. -/
theorem any_addressedTo (l : LaneNo) (ws : List WriteReq) : ws.any (addressedTo s l) = false ↔ NoneFor s l ws := by
  simp [NoneFor, addressedTo_iff, ← Bool.not_eq_true]

/-- The model's test of the head of an intake decides it. -/
theorem headOf_iff (l : LaneNo) (src : WriteSource) : s.headOf l src = true ↔ HeadOfIntake s l src := by
  cases src <;> simp only [State.headOf, State.presentedBefore, HeadOfIntake, Bool.not_eq_true', any_addressedTo]

/-- An untaken write of another lane or of none does not show in a lane's intake: it is in no one's way. -/
theorem intake_append (l : LaneNo) (w : WriteReq) :
    (setUntaken (s.port.untaken ++ [w]) s).intake l =
      if addressedTo s l w = true then s.intake l ++ [w] else s.intake l := by
  have h : ∀ v, addressedTo (setUntaken (s.port.untaken ++ [w]) s) l v = addressedTo s l v := fun _ => rfl
  simp only [State.intake, setUntaken_untaken, List.filter_append, List.filter_singleton]
  simp only [funext h]
  split <;> simp_all

/-- All that a lane does with a write of its kind: it acts on the write, or leaves it untaken, or the command is another's. -/
theorem laneWrite_cases (kind : LaneWriteKind) (src : WriteSource) (act : LaneNo → Nat → WriteReq → State → State) :
    (∃ w l off, s.sourceWrite src = some w ∧ routeWrite s w = .aperture l off ∧ laneWriteKind off w.bytes = kind ∧
        ((laneTakes s l = true ∧ s.headOf l src = true ∧ laneWrite kind src act s = act l off w (leaveFabric src s)) ∨
          (¬ (laneTakes s l = true ∧ s.headOf l src = true) ∧ laneWrite kind src act s = leaveUntaken src s))) ∨
      laneWrite kind src act s = s := by
  unfold laneWrite
  split
  · rename_i w hw
    split
    · rename_i l off hr
      split
      · rename_i hk
        refine .inl ⟨w, l, off, hw, hr, by simpa using hk, ?_⟩
        split
        · rename_i ht
          simp only [Bool.and_eq_true] at ht
          exact .inl ⟨ht.1, ht.2, rfl⟩
        · rename_i ht
          exact .inr ⟨by simpa using ht, rfl⟩
      · exact .inr rfl
    · exact .inr rfl
  · exact .inr rfl

/-- All that the port does with a write it routes itself: it takes the write at any place, or leaves the state. -/
theorem portWrite_cases (rt : Route) (src : WriteSource) (k : WriteReq → State → State) :
    (∃ w, s.sourceWrite src = some w ∧ routeWrite s w = rt ∧ s.hasRoom .write = true ∧
        portWrite rt src k s = k w (leaveFabric src s)) ∨ portWrite rt src k s = s := by
  unfold portWrite
  split
  · rename_i w hw
    split
    · rename_i h
      simp only [Bool.and_eq_true, beq_iff_eq] at h
      exact .inl ⟨w, hw, h.1, h.2, rfl⟩
    · exact .inr rfl
  · exact .inr rfl

end Sys2Proof.Machine
end

