-- ==== Sys2Proof/Laws/Link.lean ====
section
/-! SUPPORT. What the four wires of the management link do (R182): one lemma per operation. -/

namespace Sys2Proof.Machine

variable (s : State)

/-- The bits of a byte are read back as that byte, before the bytes of the bits that follow (R182). -/
theorem bytesOfBits_append (b : Byte) (rest : List Bool) : bytesOfBits (bitsOfByte b ++ rest) = b :: bytesOfBits rest := by
  have h : ∀ b : Byte, BitVec.ofNat 8 (128 * (b.getLsbD 7).toNat + 64 * (b.getLsbD 6).toNat + 32 * (b.getLsbD 5).toNat
      + 16 * (b.getLsbD 4).toNat + 8 * (b.getLsbD 3).toNat + 4 * (b.getLsbD 2).toNat + 2 * (b.getLsbD 1).toNat
      + (b.getLsbD 0).toNat) = b := by decide +kernel
  simp only [bitsOfByte, List.cons_append, List.nil_append, bytesOfBits, h]

/-- A run of bytes has eight bits a byte. -/
@[simp] theorem length_bitsOfBytes (bs : List Byte) : (bitsOfBytes bs).length = 8 * bs.length := by
  induction bs with
  | nil => rfl
  | cons b bs ih => simp [bitsOfBytes, bitsOfByte, ih]; omega

/-- The bits of the complete bytes and the bits that make none are together the bits shifted: LINK_FRAME_DISCARD loses no bit
of a frame (R182). -/
theorem bitsOfBytes_looseBits (bits : List Bool) : bitsOfBytes (bytesOfBits bits) ++ looseBits bits = bits := by
  have hb : ∀ b7 b6 b5 b4 b3 b2 b1 b0 : Bool, bitsOfByte (BitVec.ofNat 8 (128 * b7.toNat + 64 * b6.toNat + 32 * b5.toNat
      + 16 * b4.toNat + 8 * b3.toNat + 4 * b2.toNat + 2 * b1.toNat + b0.toNat)) = [b7, b6, b5, b4, b3, b2, b1, b0] := by
    decide +kernel
  induction bits using bytesOfBits.induct with
  | case1 b7 b6 b5 b4 b3 b2 b1 b0 rest ih =>
    have h : looseBits (b7 :: b6 :: b5 :: b4 :: b3 :: b2 :: b1 :: b0 :: rest) = looseBits rest := by
      have e : (rest.length + 1 + 1 + 1 + 1 + 1 + 1 + 1 + 1) / 8 * 8 = rest.length / 8 * 8 + 8 := by omega
      simp [looseBits, e]
    simp only [bytesOfBits, bitsOfBytes, hb, h, ih, List.cons_append, List.nil_append]
  | case2 bits hn =>
    have h : bits.length / 8 = 0 := by
      match bits, hn with
      | [], _ | [_], _ | [_, _], _ | [_, _, _], _ | [_, _, _, _], _ | [_, _, _, _, _], _ | [_, _, _, _, _, _], _
      | [_, _, _, _, _, _, _], _ => simp
      | _ :: _ :: _ :: _ :: _ :: _ :: _ :: _ :: _, hn => exact absurd rfl (hn _ _ _ _ _ _ _ _ _)
    have hz : bytesOfBits bits = [] := by
      unfold bytesOfBits
      split
      · exact absurd rfl (hn _ _ _ _ _ _ _ _ _)
      · rfl
    simp [hz, bitsOfBytes, looseBits, h]

/-- CS# falling composes the outgoing frame and leaves the receiver (R184). -/
@[simp] theorem csFalls_receiver : (csFalls s).link.receiver = s.link.receiver := rfl

/-- While CS# is high a pulse of SCK does nothing (R182). -/
theorem sckPulses_unselected (bits : List Bool) (h : s.link.sending = none) : sckPulses bits s = s := by
  induction bits generalizing s with
  | nil => rfl
  | cons b bits ih =>
    have : sckPulse b s = s := by simp [sckPulse, h]
    simpa [sckPulses, this] using ih s h

/-- While CS# is low the pulses of SCK append the bits sampled on SDI to the receiver, and do nothing else (R182). -/
theorem sckPulses_selected (bits : List Bool) (h : s.link.sending.isSome = true) :
    sckPulses bits s = { s with link := { s.link with receiver := s.link.receiver ++ bits } } := by
  induction bits generalizing s with
  | nil => simp [sckPulses]
  | cons b bits ih =>
    have hb : sckPulse b s = { s with link := { s.link with receiver := s.link.receiver ++ [b] } } := by
      simp [sckPulse, h]
    have := ih (sckPulse b s) (by simpa [hb] using h)
    simpa [sckPulses, hb] using this

/-- The frame that ends has all its bits in the receiver (R182). -/
@[simp] theorem frame_receiver (bits : List Bool) :
    (sckPulses bits (csFalls s)).link.receiver = s.link.receiver ++ bits := by
  rw [sckPulses_selected _ _ (by simp [csFalls])]; rfl

/-- SDO is not driven while RESET# is low (R181). -/
theorem sdo_resetLow (h : s.resetLow = true) : sdo s = none := by simp [sdo, h]

/-- SDO is not driven while CS# is high (R182). -/
theorem sdo_unselected (h : s.link.sending = none) : sdo s = none := by simp [sdo, h]

/-- Between two frames the receiver is empty and CS# is high (R182). -/
@[simp] theorem frameOver_link :
    (frameOver s).link = { receiver := [], sending := none, answer := s.link.answer } := rfl

/-- A discarded frame leaves BAD_CRC as the pending answer and sets LINK_ERR (R182). -/
theorem discardFrame_spec (bytes : List Byte) :
    discardFrame bytes s = { s with
      link := { receiver := [], sending := none
                answer := { resp := .badCrc, item := arrived bytes 1, index := arrived bytes 2, data := 0 } }
      attn := { s.attn with linkErr := true } } := rfl

end Sys2Proof.Machine
end

