-- ==== Sys2Proof/Laws/State.lean ====
section
/-! SUPPORT. One lemma per field per update of State, true by rfl, so that no later proof unfolds a record update. These are
the base updates of Machine/Ops.lean, to which every other operation of the model unfolds. -/

namespace Sys2Proof.Machine

variable (s : State)

section modLaneFields

variable (l : LaneNo) (g : Lane → Lane)

@[simp] theorem modLane_pending : (modLane l g s).pending = s.pending := rfl
@[simp] theorem modLane_port : (modLane l g s).port = s.port := rfl
@[simp] theorem modLane_lanes :
    (modLane l g s).lanes =
      s.lanes.set l.val (g (s.lane l)) l.isLt := rfl
@[simp] theorem modLane_frames : (modLane l g s).frames = s.frames := rfl
@[simp] theorem modLane_classTable : (modLane l g s).classTable = s.classTable := rfl
@[simp] theorem modLane_waitList : (modLane l g s).waitList = s.waitList := rfl
@[simp] theorem modLane_nextSerial : (modLane l g s).nextSerial = s.nextSerial := rfl
@[simp] theorem modLane_sel : (modLane l g s).sel = s.sel := rfl
@[simp] theorem modLane_fill : (modLane l g s).fill = s.fill := rfl
@[simp] theorem modLane_sealQ : (modLane l g s).sealQ = s.sealQ := rfl
@[simp] theorem modLane_lastPop : (modLane l g s).lastPop = s.lastPop := rfl
@[simp] theorem modLane_owed : (modLane l g s).owed = s.owed := rfl
@[simp] theorem modLane_pulses : (modLane l g s).pulses = s.pulses := rfl
@[simp] theorem modLane_tick : (modLane l g s).tick = s.tick := rfl
@[simp] theorem modLane_run : (modLane l g s).run = s.run := rfl
@[simp] theorem modLane_items : (modLane l g s).items = s.items := rfl
@[simp] theorem modLane_link : (modLane l g s).link = s.link := rfl
@[simp] theorem modLane_attn : (modLane l g s).attn = s.attn := rfl
@[simp] theorem modLane_resetLow : (modLane l g s).resetLow = s.resetLow := rfl
@[simp] theorem modLane_free : (modLane l g s).free = s.free := rfl

end modLaneFields

section modFrameFields

variable (f : FrameNo) (g : Frame → Frame)

@[simp] theorem modFrame_pending : (modFrame f g s).pending = s.pending := rfl
@[simp] theorem modFrame_port : (modFrame f g s).port = s.port := rfl
@[simp] theorem modFrame_lanes : (modFrame f g s).lanes = s.lanes := rfl
@[simp] theorem modFrame_frames :
    (modFrame f g s).frames =
      s.frames.set f.val (g (s.frame f)) f.isLt := rfl
@[simp] theorem modFrame_classTable : (modFrame f g s).classTable = s.classTable := rfl
@[simp] theorem modFrame_waitList : (modFrame f g s).waitList = s.waitList := rfl
@[simp] theorem modFrame_nextSerial : (modFrame f g s).nextSerial = s.nextSerial := rfl
@[simp] theorem modFrame_sel : (modFrame f g s).sel = s.sel := rfl
@[simp] theorem modFrame_fill : (modFrame f g s).fill = s.fill := rfl
@[simp] theorem modFrame_sealQ : (modFrame f g s).sealQ = s.sealQ := rfl
@[simp] theorem modFrame_lastPop : (modFrame f g s).lastPop = s.lastPop := rfl
@[simp] theorem modFrame_owed : (modFrame f g s).owed = s.owed := rfl
@[simp] theorem modFrame_pulses : (modFrame f g s).pulses = s.pulses := rfl
@[simp] theorem modFrame_tick : (modFrame f g s).tick = s.tick := rfl
@[simp] theorem modFrame_run : (modFrame f g s).run = s.run := rfl
@[simp] theorem modFrame_items : (modFrame f g s).items = s.items := rfl
@[simp] theorem modFrame_link : (modFrame f g s).link = s.link := rfl
@[simp] theorem modFrame_attn : (modFrame f g s).attn = s.attn := rfl
@[simp] theorem modFrame_resetLow : (modFrame f g s).resetLow = s.resetLow := rfl
@[simp] theorem modFrame_free : (modFrame f g s).free = s.free := rfl

end modFrameFields

section setClassFrameFields

variable (c : ClassNo) (o : Option FrameNo)

@[simp] theorem setClassFrame_pending : (setClassFrame c o s).pending = s.pending := rfl
@[simp] theorem setClassFrame_port : (setClassFrame c o s).port = s.port := rfl
@[simp] theorem setClassFrame_lanes : (setClassFrame c o s).lanes = s.lanes := rfl
@[simp] theorem setClassFrame_frames : (setClassFrame c o s).frames = s.frames := rfl
@[simp] theorem setClassFrame_classTable :
    (setClassFrame c o s).classTable =
      s.classTable.set c.val o c.isLt := rfl
@[simp] theorem setClassFrame_waitList : (setClassFrame c o s).waitList = s.waitList := rfl
@[simp] theorem setClassFrame_nextSerial : (setClassFrame c o s).nextSerial = s.nextSerial := rfl
@[simp] theorem setClassFrame_sel : (setClassFrame c o s).sel = s.sel := rfl
@[simp] theorem setClassFrame_fill : (setClassFrame c o s).fill = s.fill := rfl
@[simp] theorem setClassFrame_sealQ : (setClassFrame c o s).sealQ = s.sealQ := rfl
@[simp] theorem setClassFrame_lastPop : (setClassFrame c o s).lastPop = s.lastPop := rfl
@[simp] theorem setClassFrame_owed : (setClassFrame c o s).owed = s.owed := rfl
@[simp] theorem setClassFrame_pulses : (setClassFrame c o s).pulses = s.pulses := rfl
@[simp] theorem setClassFrame_tick : (setClassFrame c o s).tick = s.tick := rfl
@[simp] theorem setClassFrame_run : (setClassFrame c o s).run = s.run := rfl
@[simp] theorem setClassFrame_items : (setClassFrame c o s).items = s.items := rfl
@[simp] theorem setClassFrame_link : (setClassFrame c o s).link = s.link := rfl
@[simp] theorem setClassFrame_attn : (setClassFrame c o s).attn = s.attn := rfl
@[simp] theorem setClassFrame_resetLow : (setClassFrame c o s).resetLow = s.resetLow := rfl
@[simp] theorem setClassFrame_free : (setClassFrame c o s).free = s.free := rfl

end setClassFrameFields

section modPortFields

variable (g : Port → Port)

@[simp] theorem modPort_pending : (modPort g s).pending = s.pending := rfl
@[simp] theorem modPort_port :
    (modPort g s).port =
      g s.port := rfl
@[simp] theorem modPort_lanes : (modPort g s).lanes = s.lanes := rfl
@[simp] theorem modPort_frames : (modPort g s).frames = s.frames := rfl
@[simp] theorem modPort_classTable : (modPort g s).classTable = s.classTable := rfl
@[simp] theorem modPort_waitList : (modPort g s).waitList = s.waitList := rfl
@[simp] theorem modPort_nextSerial : (modPort g s).nextSerial = s.nextSerial := rfl
@[simp] theorem modPort_sel : (modPort g s).sel = s.sel := rfl
@[simp] theorem modPort_fill : (modPort g s).fill = s.fill := rfl
@[simp] theorem modPort_sealQ : (modPort g s).sealQ = s.sealQ := rfl
@[simp] theorem modPort_lastPop : (modPort g s).lastPop = s.lastPop := rfl
@[simp] theorem modPort_owed : (modPort g s).owed = s.owed := rfl
@[simp] theorem modPort_pulses : (modPort g s).pulses = s.pulses := rfl
@[simp] theorem modPort_tick : (modPort g s).tick = s.tick := rfl
@[simp] theorem modPort_run : (modPort g s).run = s.run := rfl
@[simp] theorem modPort_items : (modPort g s).items = s.items := rfl
@[simp] theorem modPort_link : (modPort g s).link = s.link := rfl
@[simp] theorem modPort_attn : (modPort g s).attn = s.attn := rfl
@[simp] theorem modPort_resetLow : (modPort g s).resetLow = s.resetLow := rfl
@[simp] theorem modPort_free : (modPort g s).free = s.free := rfl

end modPortFields

section modRunFields

variable (g : RunControl → RunControl)

@[simp] theorem modRun_pending : (modRun g s).pending = s.pending := rfl
@[simp] theorem modRun_port : (modRun g s).port = s.port := rfl
@[simp] theorem modRun_lanes : (modRun g s).lanes = s.lanes := rfl
@[simp] theorem modRun_frames : (modRun g s).frames = s.frames := rfl
@[simp] theorem modRun_classTable : (modRun g s).classTable = s.classTable := rfl
@[simp] theorem modRun_waitList : (modRun g s).waitList = s.waitList := rfl
@[simp] theorem modRun_nextSerial : (modRun g s).nextSerial = s.nextSerial := rfl
@[simp] theorem modRun_sel : (modRun g s).sel = s.sel := rfl
@[simp] theorem modRun_fill : (modRun g s).fill = s.fill := rfl
@[simp] theorem modRun_sealQ : (modRun g s).sealQ = s.sealQ := rfl
@[simp] theorem modRun_lastPop : (modRun g s).lastPop = s.lastPop := rfl
@[simp] theorem modRun_owed : (modRun g s).owed = s.owed := rfl
@[simp] theorem modRun_pulses : (modRun g s).pulses = s.pulses := rfl
@[simp] theorem modRun_tick : (modRun g s).tick = s.tick := rfl
@[simp] theorem modRun_run :
    (modRun g s).run =
      g s.run := rfl
@[simp] theorem modRun_items : (modRun g s).items = s.items := rfl
@[simp] theorem modRun_link : (modRun g s).link = s.link := rfl
@[simp] theorem modRun_attn : (modRun g s).attn = s.attn := rfl
@[simp] theorem modRun_resetLow : (modRun g s).resetLow = s.resetLow := rfl
@[simp] theorem modRun_free : (modRun g s).free = s.free := rfl

end modRunFields

section modAttnFields

variable (g : AttnFlags → AttnFlags)

@[simp] theorem modAttn_pending : (modAttn g s).pending = s.pending := rfl
@[simp] theorem modAttn_port : (modAttn g s).port = s.port := rfl
@[simp] theorem modAttn_lanes : (modAttn g s).lanes = s.lanes := rfl
@[simp] theorem modAttn_frames : (modAttn g s).frames = s.frames := rfl
@[simp] theorem modAttn_classTable : (modAttn g s).classTable = s.classTable := rfl
@[simp] theorem modAttn_waitList : (modAttn g s).waitList = s.waitList := rfl
@[simp] theorem modAttn_nextSerial : (modAttn g s).nextSerial = s.nextSerial := rfl
@[simp] theorem modAttn_sel : (modAttn g s).sel = s.sel := rfl
@[simp] theorem modAttn_fill : (modAttn g s).fill = s.fill := rfl
@[simp] theorem modAttn_sealQ : (modAttn g s).sealQ = s.sealQ := rfl
@[simp] theorem modAttn_lastPop : (modAttn g s).lastPop = s.lastPop := rfl
@[simp] theorem modAttn_owed : (modAttn g s).owed = s.owed := rfl
@[simp] theorem modAttn_pulses : (modAttn g s).pulses = s.pulses := rfl
@[simp] theorem modAttn_tick : (modAttn g s).tick = s.tick := rfl
@[simp] theorem modAttn_run : (modAttn g s).run = s.run := rfl
@[simp] theorem modAttn_items : (modAttn g s).items = s.items := rfl
@[simp] theorem modAttn_link : (modAttn g s).link = s.link := rfl
@[simp] theorem modAttn_attn :
    (modAttn g s).attn =
      g s.attn := rfl
@[simp] theorem modAttn_resetLow : (modAttn g s).resetLow = s.resetLow := rfl
@[simp] theorem modAttn_free : (modAttn g s).free = s.free := rfl

end modAttnFields

section enqueueJobFields

variable (j : Job)

@[simp] theorem enqueueJob_pending : (enqueueJob j s).pending = s.pending := rfl
@[simp] theorem enqueueJob_port : (enqueueJob j s).port = s.port := rfl
@[simp] theorem enqueueJob_lanes : (enqueueJob j s).lanes = s.lanes := rfl
@[simp] theorem enqueueJob_frames : (enqueueJob j s).frames = s.frames := rfl
@[simp] theorem enqueueJob_classTable : (enqueueJob j s).classTable = s.classTable := rfl
@[simp] theorem enqueueJob_waitList : (enqueueJob j s).waitList = s.waitList := rfl
@[simp] theorem enqueueJob_nextSerial : (enqueueJob j s).nextSerial = s.nextSerial := rfl
@[simp] theorem enqueueJob_sel : (enqueueJob j s).sel = s.sel := rfl
@[simp] theorem enqueueJob_fill :
    (enqueueJob j s).fill =
      { queue := s.fill.queue ++ [j]
        progress := if s.fill.queue.isEmpty then some j.begin else s.fill.progress } := rfl
@[simp] theorem enqueueJob_sealQ : (enqueueJob j s).sealQ = s.sealQ := rfl
@[simp] theorem enqueueJob_lastPop : (enqueueJob j s).lastPop = s.lastPop := rfl
@[simp] theorem enqueueJob_owed : (enqueueJob j s).owed = s.owed := rfl
@[simp] theorem enqueueJob_pulses : (enqueueJob j s).pulses = s.pulses := rfl
@[simp] theorem enqueueJob_tick : (enqueueJob j s).tick = s.tick := rfl
@[simp] theorem enqueueJob_run : (enqueueJob j s).run = s.run := rfl
@[simp] theorem enqueueJob_items : (enqueueJob j s).items = s.items := rfl
@[simp] theorem enqueueJob_link : (enqueueJob j s).link = s.link := rfl
@[simp] theorem enqueueJob_attn : (enqueueJob j s).attn = s.attn := rfl
@[simp] theorem enqueueJob_resetLow : (enqueueJob j s).resetLow = s.resetLow := rfl
@[simp] theorem enqueueJob_free : (enqueueJob j s).free = s.free := rfl

end enqueueJobFields

section leaveWaitListFields

variable (l : LaneNo)

@[simp] theorem leaveWaitList_pending : (leaveWaitList l s).pending = s.pending := rfl
@[simp] theorem leaveWaitList_port : (leaveWaitList l s).port = s.port := rfl
@[simp] theorem leaveWaitList_lanes : (leaveWaitList l s).lanes = s.lanes := rfl
@[simp] theorem leaveWaitList_frames : (leaveWaitList l s).frames = s.frames := rfl
@[simp] theorem leaveWaitList_classTable : (leaveWaitList l s).classTable = s.classTable := rfl
@[simp] theorem leaveWaitList_waitList :
    (leaveWaitList l s).waitList =
      s.waitList.filter (· != l) := rfl
@[simp] theorem leaveWaitList_nextSerial : (leaveWaitList l s).nextSerial = s.nextSerial := rfl
@[simp] theorem leaveWaitList_sel : (leaveWaitList l s).sel = s.sel := rfl
@[simp] theorem leaveWaitList_fill : (leaveWaitList l s).fill = s.fill := rfl
@[simp] theorem leaveWaitList_sealQ : (leaveWaitList l s).sealQ = s.sealQ := rfl
@[simp] theorem leaveWaitList_lastPop : (leaveWaitList l s).lastPop = s.lastPop := rfl
@[simp] theorem leaveWaitList_owed : (leaveWaitList l s).owed = s.owed := rfl
@[simp] theorem leaveWaitList_pulses : (leaveWaitList l s).pulses = s.pulses := rfl
@[simp] theorem leaveWaitList_tick : (leaveWaitList l s).tick = s.tick := rfl
@[simp] theorem leaveWaitList_run : (leaveWaitList l s).run = s.run := rfl
@[simp] theorem leaveWaitList_items : (leaveWaitList l s).items = s.items := rfl
@[simp] theorem leaveWaitList_link : (leaveWaitList l s).link = s.link := rfl
@[simp] theorem leaveWaitList_attn : (leaveWaitList l s).attn = s.attn := rfl
@[simp] theorem leaveWaitList_resetLow : (leaveWaitList l s).resetLow = s.resetLow := rfl
@[simp] theorem leaveWaitList_free : (leaveWaitList l s).free = s.free := rfl

end leaveWaitListFields

section linkAnswerFields

variable (r : LinkResp) (i x : Byte) (d : Word)

@[simp] theorem linkAnswer_pending : (linkAnswer r i x d s).pending = s.pending := rfl
@[simp] theorem linkAnswer_port : (linkAnswer r i x d s).port = s.port := rfl
@[simp] theorem linkAnswer_lanes : (linkAnswer r i x d s).lanes = s.lanes := rfl
@[simp] theorem linkAnswer_frames : (linkAnswer r i x d s).frames = s.frames := rfl
@[simp] theorem linkAnswer_classTable : (linkAnswer r i x d s).classTable = s.classTable := rfl
@[simp] theorem linkAnswer_waitList : (linkAnswer r i x d s).waitList = s.waitList := rfl
@[simp] theorem linkAnswer_nextSerial : (linkAnswer r i x d s).nextSerial = s.nextSerial := rfl
@[simp] theorem linkAnswer_sel : (linkAnswer r i x d s).sel = s.sel := rfl
@[simp] theorem linkAnswer_fill : (linkAnswer r i x d s).fill = s.fill := rfl
@[simp] theorem linkAnswer_sealQ : (linkAnswer r i x d s).sealQ = s.sealQ := rfl
@[simp] theorem linkAnswer_lastPop : (linkAnswer r i x d s).lastPop = s.lastPop := rfl
@[simp] theorem linkAnswer_owed : (linkAnswer r i x d s).owed = s.owed := rfl
@[simp] theorem linkAnswer_pulses : (linkAnswer r i x d s).pulses = s.pulses := rfl
@[simp] theorem linkAnswer_tick : (linkAnswer r i x d s).tick = s.tick := rfl
@[simp] theorem linkAnswer_run : (linkAnswer r i x d s).run = s.run := rfl
@[simp] theorem linkAnswer_items : (linkAnswer r i x d s).items = s.items := rfl
@[simp] theorem linkAnswer_link :
    (linkAnswer r i x d s).link =
      { receiver := [], sending := none
        answer := { resp := r, item := i, index := x, data := d } } := rfl
@[simp] theorem linkAnswer_attn : (linkAnswer r i x d s).attn = s.attn := rfl
@[simp] theorem linkAnswer_resetLow : (linkAnswer r i x d s).resetLow = s.resetLow := rfl
@[simp] theorem linkAnswer_free : (linkAnswer r i x d s).free = s.free := rfl

end linkAnswerFields

end Sys2Proof.Machine
end

