-- ==== Sys2Proof/Laws/Ops.lean ====
section
/-! SUPPORT. What reading a lane, a frame, the class table or an open-request list gives after each base update, and what each
shared operation of Machine/Ops.lean can do, said once. -/

namespace Sys2Proof.Machine

variable (s : State)

/-! ## Reading lanes, frames and the class table after an update -/

@[simp] theorem lane_modLane_same (l : LaneNo) (g : Lane → Lane) : (modLane l g s).lane l = g (s.lane l) := by
  simp only [State.lane, modLane_lanes]
  exact Vector.getElem_set_self l.isLt

theorem lane_modLane_other {l k : LaneNo} (h : k ≠ l) (g : Lane → Lane) : (modLane l g s).lane k = s.lane k := by
  have : l.val ≠ k.val := fun e => h (Fin.ext e.symm)
  simp only [State.lane, modLane_lanes]
  exact Vector.getElem_set_ne (hi := l.isLt) (hj := k.isLt) this

@[simp] theorem frame_modFrame_same (f : FrameNo) (g : Frame → Frame) : (modFrame f g s).frame f = g (s.frame f) := by
  simp only [State.frame, modFrame_frames]
  exact Vector.getElem_set_self f.isLt

theorem frame_modFrame_other {f k : FrameNo} (h : k ≠ f) (g : Frame → Frame) :
    (modFrame f g s).frame k = s.frame k := by
  have : f.val ≠ k.val := fun e => h (Fin.ext e.symm)
  simp only [State.frame, modFrame_frames]
  exact Vector.getElem_set_ne (hi := f.isLt) (hj := k.isLt) this

theorem lane_modLane (l k : LaneNo) (g : Lane → Lane) :
    (modLane l g s).lane k = if k = l then g (s.lane l) else s.lane k := by
  by_cases h : k = l
  · subst h; simp
  · simp [h, lane_modLane_other s h]

theorem frame_modFrame (f k : FrameNo) (g : Frame → Frame) :
    (modFrame f g s).frame k = if k = f then g (s.frame f) else s.frame k := by
  by_cases h : k = f
  · subst h; simp
  · simp [h, frame_modFrame_other s h]

@[simp] theorem classFrame_set_same (c : ClassNo) (o : Option FrameNo) : (setClassFrame c o s).classFrame c = o := by
  simp only [State.classFrame, setClassFrame_classTable]
  exact Vector.getElem_set_self c.isLt

@[simp] theorem lane_modFrame (f : FrameNo) (g : Frame → Frame) (l : LaneNo) : (modFrame f g s).lane l = s.lane l := rfl
@[simp] theorem lane_setClassFrame (c : ClassNo) (o : Option FrameNo) (l : LaneNo) :
    (setClassFrame c o s).lane l = s.lane l := rfl
@[simp] theorem lane_modPort (g : Port → Port) (l : LaneNo) : (modPort g s).lane l = s.lane l := rfl
@[simp] theorem lane_modRun (g : RunControl → RunControl) (l : LaneNo) : (modRun g s).lane l = s.lane l := rfl
@[simp] theorem lane_modAttn (g : AttnFlags → AttnFlags) (l : LaneNo) : (modAttn g s).lane l = s.lane l := rfl
@[simp] theorem lane_enqueueJob (j : Job) (l : LaneNo) : (enqueueJob j s).lane l = s.lane l := rfl
@[simp] theorem lane_leaveWaitList (k l : LaneNo) : (leaveWaitList k s).lane l = s.lane l := rfl
@[simp] theorem lane_linkAnswer (r : LinkResp) (i x : Byte) (d : Word) (l : LaneNo) :
    (linkAnswer r i x d s).lane l = s.lane l := rfl
@[simp] theorem frame_modLane (l : LaneNo) (g : Lane → Lane) (f : FrameNo) : (modLane l g s).frame f = s.frame f := rfl
@[simp] theorem frame_setClassFrame (c : ClassNo) (o : Option FrameNo) (f : FrameNo) :
    (setClassFrame c o s).frame f = s.frame f := rfl
@[simp] theorem frame_modPort (g : Port → Port) (f : FrameNo) : (modPort g s).frame f = s.frame f := rfl
@[simp] theorem frame_modRun (g : RunControl → RunControl) (f : FrameNo) : (modRun g s).frame f = s.frame f := rfl
@[simp] theorem frame_modAttn (g : AttnFlags → AttnFlags) (f : FrameNo) : (modAttn g s).frame f = s.frame f := rfl
@[simp] theorem frame_enqueueJob (j : Job) (f : FrameNo) : (enqueueJob j s).frame f = s.frame f := rfl
@[simp] theorem frame_leaveWaitList (k : LaneNo) (f : FrameNo) : (leaveWaitList k s).frame f = s.frame f := rfl
@[simp] theorem frame_linkAnswer (r : LinkResp) (i x : Byte) (d : Word) (f : FrameNo) :
    (linkAnswer r i x d s).frame f = s.frame f := rfl

/-! ## Joining and reordering updates -/

/-- Two updates of one lane are one. -/
theorem modLane_modLane (l : LaneNo) (g h : Lane → Lane) :
    modLane l g (modLane l h s) = modLane l (fun ln => g (h ln)) s := by
  have e : (modLane l h s).lane l = h (s.lane l) := lane_modLane_same s l h
  unfold modLane at e ⊢
  simp only [e, Vector.set_set]

/-- Two updates of one frame are one. -/
theorem modFrame_modFrame (f : FrameNo) (g h : Frame → Frame) :
    modFrame f g (modFrame f h s) = modFrame f (fun fr => g (h fr)) s := by
  have e : (modFrame f h s).frame f = h (s.frame f) := frame_modFrame_same s f h
  unfold modFrame at e ⊢
  simp only [e, Vector.set_set]

/-- Updates of a lane and of a frame change places. -/
theorem modFrame_modLane (f : FrameNo) (g : Frame → Frame) (l : LaneNo) (h : Lane → Lane) :
    modFrame f g (modLane l h s) = modLane l h (modFrame f g s) := rfl

theorem modLane_modAttn (l : LaneNo) (g : Lane → Lane) (h : AttnFlags → AttnFlags) :
    modLane l g (modAttn h s) = modAttn h (modLane l g s) := rfl

theorem modLane_modPort (l : LaneNo) (g : Lane → Lane) (h : Port → Port) :
    modLane l g (modPort h s) = modPort h (modLane l g s) := rfl

theorem modFrame_modPort (f : FrameNo) (g : Frame → Frame) (h : Port → Port) :
    modFrame f g (modPort h s) = modPort h (modFrame f g s) := rfl

theorem modFrame_modAttn (f : FrameNo) (g : Frame → Frame) (h : AttnFlags → AttnFlags) :
    modFrame f g (modAttn h s) = modAttn h (modFrame f g s) := rfl

theorem modFrame_modRun (f : FrameNo) (g : Frame → Frame) (h : RunControl → RunControl) :
    modFrame f g (modRun h s) = modRun h (modFrame f g s) := rfl

/-- An update that gives what stands there changes nothing. -/
theorem modLane_id (l : LaneNo) (g : Lane → Lane) (h : g (s.lane l) = s.lane l) : modLane l g s = s := by
  have e : s.lanes.set l.val (s.lane l) l.isLt = s.lanes := Vector.set_getElem_self l.isLt
  unfold modLane
  rw [h, e]

theorem modFrame_id (f : FrameNo) (g : Frame → Frame) (h : g (s.frame f) = s.frame f) : modFrame f g s = s := by
  have e : s.frames.set f.val (s.frame f) f.isLt = s.frames := Vector.set_getElem_self f.isLt
  unfold modFrame
  rw [h, e]

/-- Updates that agree on what stands there agree. -/
theorem modLane_congr (l : LaneNo) {g h : Lane → Lane} (e : g (s.lane l) = h (s.lane l)) :
    modLane l g s = modLane l h s := by
  unfold modLane
  rw [e]

theorem modFrame_congr (f : FrameNo) {g h : Frame → Frame} (e : g (s.frame f) = h (s.frame f)) :
    modFrame f g s = modFrame f h s := by
  unfold modFrame
  rw [e]

/-! ## Outcomes and guards -/

/-- A live step answers next, with its effect. -/
theorem live_next {f : State → State} (h : s.resetLow = false) : live s f = .next (f s) := by
  simp [live, h]

/-- A checked step of a well-formed term answers next, with its effect. -/
theorem checked_next {ok : Bool} {f : State → State} (h : s.resetLow = false) (hok : ok = true) :
    checked ok s f = .next (f s) := by
  simp [checked, live, h, hok]

/-! ## Numbers, records and answers -/

/-- A fresh number is none of those in use. -/
theorem freshNat_not_mem (used : List Nat) : freshNat used ∉ used := by
  unfold freshNat
  cases hf : (List.range (used.length + 1)).find? (fun n => !used.contains n) with
  | some n => simpa using List.find?_some hf
  | none =>
    exfalso
    have hall : List.range (used.length + 1) ⊆ used := fun n hn => by simpa using List.find?_eq_none.1 hf n hn
    have hle := (List.nodup_range.subperm hall).length_le
    simp at hle

/-- A new buffer tag is no outstanding one and no late one. -/
theorem freshBtag_not_mem : s.freshBtag ∉ s.port.outstanding.map (·.btag) ++ s.port.late := freshNat_not_mem _

/-- Answering a record that is there gives its answer and removes it. -/
theorem answerRecord_found {st : Stream} {slot : Nat} {r : OpenReq} {code : RespCode} {data : List Byte}
    (h : s.findRecord st slot = some r) :
    answerRecord st slot code data s = dropRecord st slot (giveAnswer st r.tag code data s) := by
  simp [answerRecord, h]

/-- An update of the ports alone leaves lanes, frames and queues: an answer to a record. -/
theorem answerRecord_frame (st : Stream) (slot : Nat) (code : RespCode) (data : List Byte) :
    { answerRecord st slot code data s with port := s.port } = s := by
  unfold answerRecord
  split
  · cases st <;> rfl
  · rfl

theorem takeForwarded_frame (st : Stream) (tag : Nat) (cls : ReqClass) (origin : ReqOrigin) (beats : Nat)
    (req : BufReq) : { takeForwarded st tag cls origin beats req s with port := s.port } = s := by
  cases st <;> rfl

/-! ## The loops over lanes and frames -/

/-- Every lane number stands in the loop's list once. -/
theorem laneNos_complete (l : LaneNo) : l ∈ laneNos := by revert l; decide
theorem laneNos_nodup : laneNos.Nodup := by decide
theorem frameNos_complete (f : FrameNo) : f ∈ frameNos := by revert f; decide
theorem frameNos_nodup : frameNos.Nodup := by decide

/-- What every round of a loop keeps, the loop keeps. -/
theorem forLanes_keeps {P : State → Prop} {g : LaneNo → State → State} (h : ∀ l t, P t → P (g l t)) (hs : P s) :
    P (forLanes g s) := by
  unfold forLanes
  generalize laneNos = ls
  induction ls generalizing s with
  | nil => exact hs
  | cons l ls ih => exact ih (g l s) (h l s hs)

theorem forFrames_keeps {P : State → Prop} {g : FrameNo → State → State} (h : ∀ f t, P t → P (g f t)) (hs : P s) :
    P (forFrames g s) := by
  unfold forFrames
  generalize frameNos = fs
  induction fs generalizing s with
  | nil => exact hs
  | cons f fs ih => exact ih (g f s) (h f s hs)

/-- A loop that changes each lane by itself leaves every lane so changed. -/
theorem forLanes_lane (g : LaneNo → Lane → Lane) (k : LaneNo) :
    (forLanes (fun l => modLane l (g l)) s).lane k = g k (s.lane k) := by
  have key : ∀ (ls : List LaneNo) (t : State), ls.Nodup →
      (ls.foldl (fun t l => modLane l (g l) t) t).lane k = if k ∈ ls then g k (t.lane k) else t.lane k := by
    intro ls
    induction ls with
    | nil => intro t _; simp
    | cons l ls ih =>
      intro t hn
      have hn' := List.nodup_cons.1 hn
      rw [List.foldl_cons, ih _ hn'.2]
      by_cases hk : k = l
      · subst hk; simp [hn'.1]
      · simp [hk, lane_modLane_other t hk]
  unfold forLanes
  rw [key laneNos s laneNos_nodup, if_pos (laneNos_complete k)]

theorem forFrames_frame (g : FrameNo → Frame → Frame) (k : FrameNo) :
    (forFrames (fun f => modFrame f (g f)) s).frame k = g k (s.frame k) := by
  have key : ∀ (fs : List FrameNo) (t : State), fs.Nodup →
      (fs.foldl (fun t f => modFrame f (g f) t) t).frame k = if k ∈ fs then g k (t.frame k) else t.frame k := by
    intro fs
    induction fs with
    | nil => intro t _; simp
    | cons f fs ih =>
      intro t hn
      have hn' := List.nodup_cons.1 hn
      rw [List.foldl_cons, ih _ hn'.2]
      by_cases hk : k = f
      · subst hk; simp [hn'.1]
      · simp [hk, frame_modFrame_other t hk]
  unfold forFrames
  rw [key frameNos s frameNos_nodup, if_pos (frameNos_complete k)]

/-! ## Requests on an index entry -/

/-- A completion leaves an entry that is not PLACED as it is (R100). -/
theorem completed_other (now : Tick) {en : Entry} (h : en.state ≠ .placed) : en.completed now = en := by
  simp [Entry.completed, h]

/-- The end of a void leaves an entry that is not VOIDING as it is (R100). -/
theorem voided_other (received : Nat) (now : Tick) {en : Entry} (h : en.state ≠ .voiding) :
    en.voided received now = en := by
  simp [Entry.voided, h]

/-- A claim leaves an entry that is neither PLACED nor VOIDING as it is (R100). -/
theorem receive_other (n : Nat) {en : Entry} (h : en.pending = false) : en.receive n = en := by
  simp [Entry.receive, h]

/-- A claim changes nothing of an entry but its bytes received (R69, R100). -/
theorem receive_frame (n : Nat) (en : Entry) : { en.receive n with received := en.received } = en := by
  unfold Entry.receive; split <;> rfl

end Sys2Proof.Machine
end

