-- ==== Sys2Proof/Laws/PerInstr.lean ====
section
/-! SUPPORT. Statements made for every constructor of `Instr`. `LinkSpelling`: the link request that spells a command decodes to
that command (R185, R186, R188). -/

namespace Sys2Proof.Laws.LinkSpelling

open Sys2Proof

/-- The request that spells a command, if it is a link command, decodes to it. -/
def Statement (i : Instr) : Prop := ∀ r, linkRequestOf i = some r → requestCommand r = i

theorem shapeCheckRefusal (r : FabricReq) : Statement (.shapeCheckRefusal r) :=
  fun _ h => nomatch h

theorem plainRequest (r : FabricReq) : Statement (.plainRequest r) :=
  fun _ h => nomatch h

theorem frameRegionWrite (w : WriteSource) : Statement (.frameRegionWrite w) :=
  fun _ h => nomatch h

theorem announce (w : WriteSource) : Statement (.announce w) :=
  fun _ h => nomatch h

theorem controlAreaWrite (w : WriteSource) : Statement (.controlAreaWrite w) :=
  fun _ h => nomatch h

theorem bodyWrite (w : WriteSource) : Statement (.bodyWrite w) :=
  fun _ h => nomatch h

theorem statusRead (r : ReadReq) : Statement (.statusRead r) :=
  fun _ h => nomatch h

theorem mixedRead (r : ReadReq) : Statement (.mixedRead r) :=
  fun _ h => nomatch h

theorem bodyRead (r : ReadReq) : Statement (.bodyRead r) :=
  fun _ h => nomatch h

theorem frameRegionRead (r : ReadReq) : Statement (.frameRegionRead r) :=
  fun _ h => nomatch h

theorem arbiterGrant : Statement .arbiterGrant :=
  fun _ h => nomatch h

theorem plainBufferAnswer (btag : Nat) (a : BufAnswer) : Statement (.plainBufferAnswer btag a) :=
  fun _ h => nomatch h

theorem bodyWriteOkay (btag : Nat) : Statement (.bodyWriteOkay btag) :=
  fun _ h => nomatch h

theorem bodyWriteFault (btag : Nat) : Statement (.bodyWriteFault btag) :=
  fun _ h => nomatch h

theorem bodyReadAnswer (btag : Nat) (a : BufAnswer) : Statement (.bodyReadAnswer btag a) :=
  fun _ h => nomatch h

theorem drainReadOkay (btag : Nat) (data : List Byte) : Statement (.drainReadOkay btag data) :=
  fun _ h => nomatch h

theorem drainReadFault (btag : Nat) : Statement (.drainReadFault btag) :=
  fun _ h => nomatch h

theorem fillBurstOkay (btag : Nat) : Statement (.fillBurstOkay btag) :=
  fun _ h => nomatch h

theorem fillBurstFault (btag : Nat) : Statement (.fillBurstFault btag) :=
  fun _ h => nomatch h

theorem passThroughAfterCoreReset (btag : Nat) (a : BufAnswer) : Statement (.passThroughAfterCoreReset btag a) :=
  fun _ h => nomatch h

theorem lateAnswerDiscard (btag : Nat) : Statement (.lateAnswerDiscard btag) :=
  fun _ h => nomatch h

theorem fillJobComplete : Statement .fillJobComplete :=
  fun _ h => nomatch h

theorem fileCompletion (l : LaneNo) : Statement (.fileCompletion l) :=
  fun _ h => nomatch h

theorem voidEnd (l : LaneNo) : Statement (.voidEnd l) :=
  fun _ h => nomatch h

theorem heldAnnounceRetry (l : LaneNo) : Statement (.heldAnnounceRetry l) :=
  fun _ h => nomatch h

theorem sealReady (f : FrameNo) : Statement (.sealReady f) :=
  fun _ h => nomatch h

theorem drainEvaluation (f : FrameNo) : Statement (.drainEvaluation f) :=
  fun _ h => nomatch h

theorem freePulse : Statement .freePulse :=
  fun _ h => nomatch h

theorem tickAdvance : Statement .tickAdvance :=
  fun _ h => nomatch h

theorem ageExpiry (f : FrameNo) : Statement (.ageExpiry f) :=
  fun _ h => nomatch h

theorem laneTimerExpiry (l : LaneNo) : Statement (.laneTimerExpiry l) :=
  fun _ h => nomatch h

theorem holdTimeoutExpiry (l : LaneNo) : Statement (.holdTimeoutExpiry l) :=
  fun _ h => nomatch h

theorem drainTimeoutExpiry (f : FrameNo) : Statement (.drainTimeoutExpiry f) :=
  fun _ h => nomatch h

theorem stopComplete : Statement .stopComplete :=
  fun _ h => nomatch h

theorem coreClear : Statement .coreClear :=
  fun _ h => nomatch h

theorem linkFrameDiscard (bytes : List Byte) (bits : List Bool) : Statement (.linkFrameDiscard bytes bits) :=
  fun _ h => nomatch h

theorem badItem (q : LinkRequest) : Statement (.badItem q) := by
  intro r h
  change (if requestCommand q = .badItem q then some q else none) = some r at h
  split at h
  · next hq => cases h; exact hq
  · cases h

theorem configItemWrite (item : ConfigItem) (index : Byte) (data : Word) :
    Statement (.configItemWrite item index data) := by
  intro r h
  cases item <;> cases h <;> rfl

theorem timerLimitWrite (item : LimitItem) (index : Byte) (data : Word) :
    Statement (.timerLimitWrite item index data) := by
  intro r h
  cases item <;> cases h <;> rfl

theorem attnMaskWrite (index : Byte) (data : Word) : Statement (.attnMaskWrite index data) := by
  intro r h
  cases h
  rfl

theorem indexSelect (index : Byte) (data : Word) : Statement (.indexSelect index data) := by
  intro r h
  cases h
  rfl

theorem attnCauseRead (index : Byte) : Statement (.attnCauseRead index) := by
  intro r h
  cases h
  rfl

theorem sealNextPop : Statement .sealNextPop := by
  intro r h
  cases h
  rfl

theorem start (index : Byte) : Statement (.start index) := by
  intro r h
  cases h
  rfl

theorem stop (index : Byte) : Statement (.stop index) := by
  intro r h
  cases h
  rfl

theorem halt (index : Byte) : Statement (.halt index) := by
  intro r h
  cases h
  rfl

theorem enterConfig (index : Byte) : Statement (.enterConfig index) := by
  intro r h
  cases h
  rfl

theorem resetCore (index : Byte) : Statement (.resetCore index) := by
  intro r h
  cases h
  rfl

theorem flushClass (index : Byte) : Statement (.flushClass index) := by
  intro r h
  change (if index.toNat ≤ 3 then some (linkRequest 0x03#8 0x45#8 index 0) else none) = some r at h
  split at h
  · next hi =>
    cases h
    have : ¬ 3 < index.toNat := by omega
    simp [requestCommand, linkRequest, actAllowed, actCommand, this]
  · cases h

theorem release (index : Byte) : Statement (.release index) := by
  intro r h
  cases h
  rfl

theorem discard (index : Byte) : Statement (.discard index) := by
  intro r h
  cases h
  rfl

theorem redrain (index : Byte) : Statement (.redrain index) := by
  intro r h
  cases h
  rfl

theorem resetAssert : Statement .resetAssert :=
  fun _ h => nomatch h

theorem hardReset : Statement .hardReset :=
  fun _ h => nomatch h

end Sys2Proof.Laws.LinkSpelling
end

