-- ==== Sys2Proof/Tests/Slice0.lean ====
section
/-! SUPPORT. Tests of the model: the smoke test of WellFormed, the spec's worked figures, one or two steps of each command on
small states, and a witness for the hypotheses of each statement. -/

namespace Sys2Proof.Tests

open Sys2Proof.Machine Sys2Proof.Config

set_option Elab.async false

/-! ## Small states -/

/-- A step answers next, with a state of which the check holds. -/
def gives (o : Host.Outcome State Fault Refusal) (p : State → Bool) : Bool :=
  match o with
  | .next t => p t
  | .fault _ => false
  | .refused _ => false

/-- A step is refused as ill-formed. -/
def illFormed (o : Host.Outcome State Fault Refusal) : Bool :=
  match o with
  | .refused .illFormed => true
  | _ => false

/-- RUNNING with the default layout: aperture at 2^32, frames at 2^31, 64 MiB each. -/
def running : State := modRun (fun r => { r with global := .running }) State.reset

/-- The address of offset `o` of lane `l`'s aperture. -/
def laneAddr (l o : Nat) : Addr := BitVec.ofNat 48 (4294967296 + l * 67108864 + o)

/-- The address of offset `o` of frame `f`. -/
def frameAt (f o : Nat) : Addr := BitVec.ofNat 48 (2147483648 + f * 67108864 + o)

/-- A write of these bytes, every strobe set. -/
def full (a : Addr) (bytes : List Byte) : WriteReq := { tag := 7, addr := a, bytes := bytes.map some }

/-- The announce record of R196: class, flags, length; work tag 5, digest 0, expected sums 0. -/
def announceBytes (cls flags : Nat) (len : Nat) : List Byte :=
  [0xC5, 0xA0, 0x21, 0x6E, 1] ++ leBytes 1 cls ++ leBytes 2 flags ++ leBytes 8 len ++ leBytes 8 5 ++ zeroBytes 40

/-- An announce of class 0 to lane 0. -/
def announceW (len : Nat) : WriteReq := full (laneAddr 0 0) (announceBytes 0 0 len)

/-- The fields of that announce. -/
def ann (len : Nat) : Announce :=
  { cls := 0, sumGiven := false, sealAfter := false, len := len, wtag := 5, digest := 0, expA := 0, expB := 0 }

/-- A file of 16 bytes placed at offset 4,096. -/
def entry16 : Entry := (ann 16).entry 0 4096 0

/-- Frame 0 OPEN for class 0 with these entries and this cursor. -/
def open0 (entries : List Entry) (cursor : Nat) (s : State) : State :=
  setClassFrame 0 (some 0) (modFrame 0 (fun fr => { fr with
    state := .opened, cls := some 0, serial := 1, cursor := cursor, entries := entries }) s)

/-- Lane 0 RECEIVING the file of 16 bytes, nothing claimed. -/
def receiving : State :=
  modLane 0 (fun ln => { ln with state := .receiving, file := some (0, 0), timer := some { start := 0, reported := false } })
    (open0 [entry16] 4608 running)

/-- Lane 0 VOIDING that file with cause TIMEOUT. -/
def voiding : State :=
  modLane 0 (fun ln => { ln with state := .voiding, timer := none, voidCause := some .timeout })
    (modEntry 0 0 (fun en => { en with state := .voiding }) receiving)

/-- Lane 0 WAITING with the announce of 16 bytes held for a reason, its write in slot 0. -/
def waiting (reason : WaitReason) (s : State) : State :=
  let t := modLane 0 (fun ln => { ln with
    state := .waiting
    held := some { ann := ann 16, reason := reason, timer := { start := 0, reported := false }, slot := 0 } })
    (addRecord .write { slot := 0, tag := 7, cls := .aperture 0, origin := .heldAnnounce 0, stage := .held, beats := 8
                        preReset := false } s)
  if reason == .noFrame then { t with waitList := [0] } else t

/-- Every frame HELD. -/
def allHeld (s : State) : State := { s with frames := Vector.replicate 8 { Frame.free with state := .held } }

/-- Frame 0 in a state, with image_length 5,120 and a fresh drain record. -/
def frame0 (st : FrameState) (s : State) : State :=
  modFrame 0 (fun fr => { fr with state := st, serial := 1, cursor := 4608, entries := [entry16], imageLength := some 5120
                                  drain := some Drain.reset }) s

/-- Frame 0 SEALED, in the seal queue. -/
def sealed0 : State := { frame0 .sealed running with sealQ := [0] }

/-- Frame 0 DRAINING, its drain cursor at `c` with `n` counted reads outstanding. -/
def draining (c n : Nat) : State :=
  modFrame 0 (fun fr => { fr with drain := some { Drain.reset with
    cursor := c, outstanding := n, timer := some { start := 0, reported := false } } }) (frame0 .draining running)

/-- A record in slot 0 and the buffer request with tag 0 that it waits for. -/
def forwarded (st : Machine.Stream) (origin : ReqOrigin) (cls : ReqClass) (body : BufBody) (s : State) : State :=
  let r : OpenReq := { slot := 0, tag := 9, cls := cls, origin := origin, stage := .forwarded, beats := 2
                       preReset := false }
  modPort (fun p => { p with outstanding := [{ btag := 0, origin := .fabric st 0, req := { addr := 0, body := body } }] })
    (addRecord st r s)

/-- The record that `forwarded` adds. -/
def record0 (origin : ReqOrigin) (cls : ReqClass) : OpenReq :=
  { slot := 0, tag := 9, cls := cls, origin := origin, stage := .forwarded, beats := 2, preReset := false }

/-- A body write of the whole file of 16 bytes, forwarded and claimed. -/
def wholeWrite : BodyWriteInfo :=
  { lane := 0, frame := 0, entry := 0, off := 4096, k := 0, lo := 0, hi := 16, pastEnd := false }

/-- Lane 0 RECEIVING, its only body write outstanding, the whole body claimed. -/
def lastWriteOut : State :=
  modLane 0 (fun ln => { ln with extents := [{ start := 0, stop := 16 }], outstanding := 1, firstWrite := true })
    (forwarded .write (.bodyWrite wholeWrite) (.aperture 0) (.write ((zeroBytes 16).map some)) receiving)

/-- A job of 64 zero bytes into frame 0, all its bursts answered. -/
def jobDone (kind : JobKind) (l : Option LaneNo) (s : State) : State :=
  { s with fill := { queue := [{ kind := kind, frame := 0, lane := l, start := 4096, stop := 4160, source := .zeros }]
                     progress := some { next := 4160, issued := 1, answered := 1 } } }

/-! ## WellFormed: one ill-formed term for each check -/

theorem test_wf_write_empty :
    illFormed (exec (.plainRequest (.write (.present { tag := 0, addr := 0, bytes := [] }))) running) := by
  decide +kernel
theorem test_wf_write_odd : illFormed (exec (.bodyWrite (.present (full 0 (zeroBytes 12)))) running) := by decide +kernel
theorem test_wf_write_long : illFormed (exec (.announce (.present (full 0 (zeroBytes 136)))) running) := by decide +kernel
theorem test_wf_read_none : illFormed (exec (.statusRead { tag := 0, addr := 0, beats := 0 }) running) := by decide +kernel
theorem test_wf_read_long :
    illFormed (exec (.frameRegionRead { tag := 0, addr := 0, beats := 17 }) running) := by decide +kernel
theorem test_wf_data_odd : illFormed (exec (.drainReadOkay 0 (zeroBytes 7)) running) := by decide +kernel
theorem test_wf_data_long :
    illFormed (exec (.bodyReadAnswer 0 { code := .okay, data := zeroBytes 136 }) running) := by decide +kernel
theorem test_answer_of_wrong_length :
    illFormed (exec (.plainBufferAnswer 0 { code := .okay, data := zeroBytes 8 })
      (forwarded .read .plain .plain (.read 2) running)) := by decide +kernel
theorem test_unmatched_answer_faults : exec (.fillBurstOkay 3) running = .fault .unmatchedBufferAnswer := rfl

/-! ## The spec's figures -/

/-- Worked decode, chapter 1: lane 3 offsets 0 and 64; frame 5 offset 4,096; the crossing and misaligned requests; plain. -/
theorem test_worked_decode :
    route running 0x10C000000 64 = .aperture 3 0 ∧ route running 0x10C000040 16 = .aperture 3 64 ∧
      route running 0x94001000 128 = .frame 5 4096 ∧ route running 0x10C000FC0 128 = .refusedShape ∧
      route running 0x7FFFFFC0 128 = .refusedShape ∧ route running 0x40000FC0 128 = .plain ∧
      route running 0x10C000044 8 = .refusedShape ∧ route running 0xA0000000 8 = .plain ∧
      route State.reset 0x10C000FC0 128 = .plain := by decide +kernel

/-- The bytes 01 to 06 of the worked figures of chapter 5. -/
def sixBytes : List (Option Byte) := [some 1, some 2, some 3, some 4, some 5, some 6]

/-- A six-byte body, chapter 5: A_f = 67,307,526, B_f = 67,309,067. -/
theorem test_six_byte_body : TwoSum.zero.addBytes 0 sixBytes = { a := 67307526, b := 67309067 } := by decide +kernel

/-- The same body in its pack, chapter 5: the pack sum goes to (100,000,000, 2,000,000,000). -/
theorem test_six_bytes_in_the_pack :
    ({ a := 32692474, b := 652340597 } : TwoSum).addBytes 4160 sixBytes = { a := 100000000, b := 2000000000 } := by
  decide +kernel

/-- A withdrawal that wraps, chapter 5. -/
theorem test_withdrawal_wraps :
    ({ a := 50000000, b := 1000000000 } : TwoSum).withdraw { a := 67307526, b := 67309067 } 1040 =
      { a := 2130176121, b := 1799824244 } := by decide +kernel

/-- Additions that wrap, chapter 5: the word FF FF FF FF gives (1, 1), and 0x7FFF_FFFF gives (0, 0). -/
theorem test_additions_wrap :
    TwoSum.zero.addBytes 0 [some 0xFF, some 0xFF, some 0xFF, some 0xFF] = { a := 1, b := 1 } ∧
      TwoSum.zero.addBytes 0 [some 0xFF, some 0xFF, some 0xFF, some 0x7F] = { a := 0, b := 0 } := by decide +kernel

/-- The CRC of 01 03 00 00 00 00 00 is 0xA4 (worked link session, chapter 12). -/
theorem test_crc_of_read_tick : crc8 [1, 3, 0, 0, 0, 0, 0] = 0xA4 := by decide +kernel

/-- The frame of a READ TICK spells it; BAD_ITEM's command carries it (log 9). -/
theorem test_decode_read_tick :
    decodeLinkFrame (bitsOfBytes [1, 3, 0, 0, 0, 0, 0, 0xA4]) = some (.badItem { op := 1, item := 3, index := 0, data := 0 }) := by
  decide +kernel

/-- The table gives no row any bits (log 23). -/
theorem test_no_table_words : decodeTableWord 16 1 = none := rfl

/-- Chapter 11: FRAME_BASE inside the aperture region fails the layout check; the default layout passes. -/
theorem test_layout_checks :
    layoutFails State.reset = false ∧
      layoutFails { State.reset with items := { Items.reset with frameBaseLo := 0, frameBaseHi := 1 } } = true := by
  decide +kernel

/-! ## Fabric requests -/

theorem test_shape_check_refusal :
    gives (exec (.shapeCheckRefusal (.read { tag := 3, addr := 0x7FFFFFC0, beats := 16 })) running) fun t =>
      t.port.answers == [{ stream := .read, tag := 3, code := .refused, data := zeroBytes 128 }] := by decide +kernel

theorem test_plain_request :
    gives (exec (.plainRequest (.read { tag := 3, addr := 0x40000000, beats := 4 })) running) fun t =>
      t.port.passQ == [{ stream := .read, slot := 0, req := { addr := 0x40000000, body := .read 4 } }] := by decide +kernel

theorem test_frame_region_write :
    gives (exec (.frameRegionWrite (.present (full 0x94001000 (zeroBytes 8)))) running) fun t =>
      t.port.answers == [{ stream := .write, tag := 7, code := .refused, data := [] }] && t.port.passQ.isEmpty := by
  decide +kernel

/-- R50, R51: the first file of a pack: frame 0 opens with serial 1, the record of 16 + 64 bytes takes 512. -/
theorem test_announce_places :
    gives (exec (.announce (.present (announceW 16))) { running with nextSerial := 1 }) fun t =>
      (t.frame 0).state == .opened && (t.frame 0).cursor == 4608 && (t.frame 0).serial == 1 && t.nextSerial == 2 &&
        (t.lane 0).state == .receiving && t.port.answers.length == 1 && t.fill.queue.length == 2 := by decide +kernel

/-- R28: an empty file completes at once: IDLE, COMPLETE, a PAD job behind its head. -/
theorem test_announce_of_nothing :
    gives (exec (.announce (.present (announceW 0))) running) fun t =>
      (t.lane 0).state == .idle && (t.lane 0).results.map (·.code) == [ResultCode.complete] &&
        t.fill.queue.map (·.kind) == [JobKind.packHead, JobKind.fileHead, JobKind.pad] := by decide +kernel

theorem test_control_area_write :
    gives (exec (.controlAreaWrite (.present (full (laneAddr 0 56) (zeroBytes 8)))) receiving) fun t =>
      (t.lane 0).refusedWr == 1 && (t.lane 0).state == .receiving &&
        t.port.answers == [{ stream := .write, tag := 7, code := .refused, data := [] }] := by decide +kernel

/-- R63, R64: 24 bytes at body offset 0 of a file of 16: two beats go to frame offset 4,160, and 16 bytes are claimed. -/
theorem test_body_write_clamps :
    gives (exec (.bodyWrite (.present (full (laneAddr 0 64) (zeroBytes 24)))) receiving) fun t =>
      t.port.passQ.map (·.req) == [{ addr := frameAt 0 4160, body := .write ((zeroBytes 16).map some) }] &&
        (t.lane 0).extents == [{ start := 0, stop := 16 }] && (t.lane 0).outstanding == 1 := by decide +kernel

/-- R65: strobes with a hole are no range. -/
theorem test_body_write_with_a_hole :
    gives (exec (.bodyWrite (.present { tag := 7, addr := laneAddr 0 64
                                        bytes := [some 1, none, some 2, none, none, none, none, none] })) receiving)
      fun t => (t.lane 0).refusedWr == 1 && (t.lane 0).extents == [] := by decide +kernel

/-- R37, R197: the lane part of the status record of a RECEIVING lane: state 2, record offset 4,096, length 16. -/
theorem test_status_read :
    gives (exec (.statusRead { tag := 1, addr := laneAddr 0 0, beats := 3 }) receiving) fun t =>
      t.port.answers == [{ stream := .read, tag := 1, code := .okay
                           data := [2, 0, 0, 0, 0, 0, 0, 0, 0, 0x10, 0, 0, 16, 0, 0, 0] ++ zeroBytes 8 }] := by
  decide +kernel

theorem test_mixed_read :
    gives (exec (.mixedRead { tag := 1, addr := laneAddr 0 56, beats := 2 }) receiving) fun t =>
      t.port.answers == [{ stream := .read, tag := 1, code := .refused, data := zeroBytes 16 }] := by decide +kernel

/-- R72: of a read at body offset 8 of a file of 16, one beat lies below L. -/
theorem test_body_read :
    gives (exec (.bodyRead { tag := 1, addr := laneAddr 0 72, beats := 2 }) receiving) fun t =>
      t.port.passQ.map (·.req) == [{ addr := frameAt 0 4168, body := .read 1 }] := by decide +kernel

theorem test_frame_region_read :
    gives (exec (.frameRegionRead { tag := 1, addr := frameAt 0 0, beats := 16 }) sealed0) fun t =>
      (t.frame 0).state == .draining && t.sealQ == [] && ((t.frame 0).drain.map (·.cursor)) == some 128 := by
  decide +kernel

/-! ## The buffer port -/

/-- Worked sharing of the buffer port, chapter 1: with both sides ready and the last grant fill, the pass-through side wins. -/
theorem test_arbiter_alternates :
    gives (exec .arbiterGrant { jobDone .packHead none running with
      fill := { queue := [packHeadJob 0 1 0 26 0], progress := some { next := 0, issued := 0, answered := 0 } }
      port := { Port.reset with passQ := [{ stream := .read, slot := 0, req := { addr := 0x40000000, body := .read 4 } }] } })
      fun t => t.port.lastGrant == .passThrough && t.port.passQ.isEmpty &&
        t.port.outstanding.map (·.origin) == [BufOrigin.fabric .read 0] := by decide +kernel

theorem test_plain_buffer_answer :
    gives (exec (.plainBufferAnswer 0 { code := .fault, data := zeroBytes 16 }) (forwarded .read .plain .plain (.read 2) running))
      fun t => t.port.answers == [{ stream := .read, tag := 9, code := .fault, data := zeroBytes 16 }] &&
        t.port.reads.isEmpty && t.port.outstanding.isEmpty := by decide +kernel

/-- R75, R76: the last answer of the body completes the file; its pad of 432 bytes is queued. -/
theorem test_body_write_okay :
    gives (exec (.bodyWriteOkay 0) lastWriteOut) fun t =>
      (t.lane 0).state == .idle && (t.lane 0).completed == 1 && t.fill.queue.map (·.start) == [4176] &&
        t.fill.queue.map (·.stop) == [4608] && t.port.answers.map (·.code) == [RespCode.okay] := by decide +kernel

theorem test_body_write_fault :
    gives (exec (.bodyWriteFault 0) lastWriteOut) fun t =>
      (t.lane 0).state == .idle && (t.lane 0).results.map (·.code) == [ResultCode.voidMemfault] &&
        t.attn.laneErr && t.port.answers.map (·.code) == [RespCode.fault] := by decide +kernel

/-- R72: the bytes at and above L = 16 are zero. -/
theorem test_body_read_answer :
    gives (exec (.bodyReadAnswer 0 { code := .okay, data := List.replicate 8 0xAA })
      (forwarded .read (.bodyRead { lane := 0, k := 8, len := 12 }) (.aperture 0) (.read 1) receiving))
      fun t => t.port.answers.map (·.data) == [List.replicate 4 0xAA ++ zeroBytes 12] := by decide +kernel

/-- R145: a counted read's claimed bytes join the drain sum; those of the trailer do not. -/
theorem test_drain_read_okay :
    gives (exec (.drainReadOkay 0 (List.replicate 16 1))
      (forwarded .read (.drainRead { frame := 0, off := 5048, member := true, counted := true, lo := 5048, hi := 5064 })
        (.frame 0) (.read 2) (draining 5064 1)))
      fun t => (t.frame 0).drain.map (·.sums.a) == some (2 * 16843009) && (t.frame 0).state == .draining := by
  decide +kernel

theorem test_drain_read_fault :
    gives (exec (.drainReadFault 0)
      (forwarded .read (.drainRead { frame := 0, off := 0, member := true, counted := true, lo := 0, hi := 16 })
        (.frame 0) (.read 2) (draining 16 1)))
      fun t => (t.frame 0).drain.map (fun d => (d.broken, d.outstanding)) == some (true, 0) := by decide +kernel

/-- One burst of the pack head out, with buffer tag 0. -/
def burstOut : State :=
  { jobDone .packHead none running with
    fill := { queue := [packHeadJob 0 1 0 26 0], progress := some { next := 128, issued := 1, answered := 0 } }
    port := { Port.reset with outstanding :=
      [{ btag := 0, origin := .burst .packHead 0 0, req := { addr := frameAt 0 0, body := .write [some 5, none, some 7] } }] } }

theorem test_fill_burst_okay :
    gives (exec (.fillBurstOkay 0) burstOut) fun t =>
      (t.frame 0).sums == { a := 458757, b := 458757 } && t.fill.progress.map (·.answered) == some 1 := by decide +kernel

theorem test_fill_burst_fault :
    gives (exec (.fillBurstFault 0) burstOut) fun t =>
      (t.frame 0).sums == TwoSum.zero && (t.frame 0).imageFault && t.attn.imageFault := by decide +kernel

/-- R16: the answer of a request taken before a core reset goes straight to the fabric, and the core is then clear. -/
def afterCoreReset : State :=
  { modRecord .read 0 (fun r => { r with preReset := true }) (forwarded .read .plain .plain (.read 2) State.reset) with
    run := { State.reset.run with running := some .resetCore } }

theorem test_pass_through_after_core_reset :
    gives (exec (.passThroughAfterCoreReset 0 { code := .okay, data := zeroBytes 16 }) afterCoreReset) fun t =>
      t.port.answers == [{ stream := .read, tag := 9, code := .okay, data := zeroBytes 16 }] &&
        t.run.running == none && t.run.last == some (.done, .resetCore) := by decide +kernel

theorem test_late_answer_discard :
    gives (exec (.lateAnswerDiscard 4) { running with port := { Port.reset with late := [4, 5] } }) fun t =>
      t.port.late == [5] && t.port.answers.isEmpty := by decide +kernel

/-! ## The part's own units -/

theorem test_fill_job_complete :
    gives (exec .fillJobComplete (jobDone .fileHead (some 0) receiving)) fun t =>
      t.fill.queue.isEmpty && t.laneJobs 0 == 0 && (t.lane 0).state == .receiving := by decide +kernel

/-- A written file of 16 bytes that waits for its completion. -/
def written : State :=
  modLane 0 (fun ln => { ln with extents := [{ start := 0, stop := 16 }], lastWrite := some 0, timer := none })
    (addRecord .write (record0 (.bodyWrite wholeWrite) (.aperture 0)) receiving)

theorem test_file_completion :
    gives (exec (.fileCompletion 0) written) fun t =>
      (t.entry? 0 0).map (fun en => (en.state, en.received)) == some (EntryState.complete, 16) &&
        (t.lane 0).results.map (·.code) == [ResultCode.complete] := by decide +kernel

theorem test_void_end :
    gives (exec (.voidEnd 0) voiding) fun t =>
      (t.entry? 0 0).map (·.state) == some EntryState.void && (t.lane 0).state == .idle &&
        t.fill.queue.map (fun j => (j.kind, j.start, j.stop)) == [(JobKind.voidFill, 4160, 4608)] := by decide +kernel

theorem test_held_announce_retry :
    gives (exec (.heldAnnounceRetry 0) (waiting .jobLimit (open0 [] 4096 running))) fun t =>
      (t.lane 0).state == .receiving && t.port.answers.map (·.code) == [RespCode.okay] &&
        (t.frame 0).cursor == 4608 := by decide +kernel

/-- A SEALING frame with one complete entry and no job. -/
def gathering : State :=
  modFrame 0 (fun fr => { fr with state := .sealing, cls := some 0, stage := .gathering, cursor := 4608
                                  entries := [{ entry16 with state := .complete }] }) running

/-- R126: image_length = 4,608 + roundup(64 × 2, 512) = 5,120. -/
theorem test_seal_ready :
    gives (exec (.sealReady 0) gathering) fun t =>
      (t.frame 0).imageLength == some 5120 && (t.frame 0).stage == .writing &&
        t.fill.queue.map (fun j => (j.start, j.stop)) == [(4608, 5120)] := by decide +kernel

theorem test_drain_evaluation :
    gives (exec (.drainEvaluation 0) (draining 5120 0)) fun t =>
      (t.frame 0).state == .drained && t.run.drainedN == 1 && t.owed == 0 := by decide +kernel

theorem test_free_pulse :
    gives (exec .freePulse { running with owed := 2 }) fun t => t.owed == 1 && t.pulses == 1 := by decide +kernel

theorem test_stop_complete :
    gives (exec .stopComplete { running with run := { running.run with global := .stopping, running := some .stop } })
      fun t => t.run.global == .stopped && t.run.last == some (.done, .stop) := by decide +kernel

theorem test_core_clear :
    gives (exec .coreClear { State.reset with run := { State.reset.run with running := some .resetCore } }) fun t =>
      t.run.running == none && t.run.last == some (.done, .resetCore) := by decide +kernel

/-! ## Timers -/

/-- The tick wraps, and a deadline of 2,000 from 4,294,965,296 has elapsed 2,000 at 0. -/
theorem test_tick_wraps :
    gives (exec .tickAdvance { modLane 0 (fun ln => { ln with
      firstWrite := true, timer := some { start := 4294965296#32, reported := false } }) receiving with tick := 4294967295#32 })
      fun t => t.tick == 0 && (t.lane 0).timer.map (·.reported) == some true := by decide +kernel

theorem test_age_expiry :
    gives (exec (.ageExpiry 0) (modFrame 0 (fun fr => { fr with ageReported := true }) receiving)) fun t =>
      (t.frame 0).state == .sealing && (t.frame 0).sealCause == some .age && t.classFrame 0 == none := by decide +kernel

theorem test_lane_timer_expiry :
    gives (exec (.laneTimerExpiry 0) (modLane 0 (fun ln => { ln with timer := some { start := 0, reported := true } }) receiving))
      fun t => (t.lane 0).results.map (·.code) == [ResultCode.voidTimeout] && (t.lane 0).state == .idle := by decide +kernel

theorem test_hold_timeout_expiry :
    gives (exec (.holdTimeoutExpiry 0) (modLane 0 (fun ln => { ln with held := ln.held.map fun h =>
      { h with timer := { start := 0, reported := true } } }) (waiting .noFrame running)))
      fun t => (t.lane 0).state == .muted && t.waitList.isEmpty && t.port.answers.map (·.code) == [RespCode.refused] &&
        (t.lane 0).results.map (·.code) == [ResultCode.refusedHold] := by decide +kernel

theorem test_drain_timeout_expiry :
    gives (exec (.drainTimeoutExpiry 0) (modFrame 0 (fun fr => { fr with drain := fr.drain.map fun d =>
      { d with timer := some { start := 0, reported := true } } }) (draining 128 1)))
      fun t => (t.frame 0).state == .sealed && t.sealQ == [0] && (t.frame 0).drain == some Drain.reset := by decide +kernel

/-! ## The link and the actions -/

/-- F3 of the worked session: the discarded frame raises LINK_ERR, and the answer is BAD_CRC with the item byte 3. -/
theorem test_link_frame_discard :
    gives (exec (.linkFrameDiscard [1, 3, 0, 0, 0, 1, 0, 0xA4] []) running) fun t =>
      t.attn.linkErr && attnLow t && t.link.answer == { resp := .badCrc, item := 3, index := 0, data := 0 } := by
  decide +kernel

/-- F4 of the worked session: RUNNING, IDLE and LINK_ERR make the summary 0x24, whose third bit is the first 1 on SDO; after 64
bits SDO carries zeros, and with CS# high it is not driven. -/
theorem test_sdo :
    let s : State := { running with attn := { AttnFlags.clear with linkErr := true } }
    let sent (n : Nat) : State := sckPulses (List.replicate n true) (csFalls s)
    sdo s = none ∧ sdo (sent 1) = some false ∧ sdo (sent 2) = some true ∧ sdo (sent 3) = some false ∧
      sdo (sent 64) = some false ∧ sdo { sent 2 with resetLow := true } = none := by decide +kernel

theorem test_bad_item :
    gives (exec (.badItem { op := 2, item := 3, index := 0, data := 9 }) running) fun t =>
      t.link.answer == { resp := .badItem, item := 3, index := 0, data := 0 } && t.tick == 0 := by decide +kernel

/-- F1 of the worked session: FRAME_COUNT 12 becomes 8, and the next frame shifts out OK, item 0x25, data 8. -/
theorem test_config_item_write :
    gives (exec (.configItemWrite .frameCount 0 12) State.reset) fun t =>
      t.items.frameCount == 8 && (outgoingFrame t).take 7 == [0, 0, 0x25, 8, 0, 0, 0] := by decide +kernel

/-- R186: a layout item outside CONFIG keeps its value. -/
theorem test_layout_item_kept :
    gives (exec (.configItemWrite .frameCount 0 4) running) fun t =>
      t.items.frameCount == 8 && t.link.answer == { resp := .refusedState, item := 0x25, index := 0, data := 8 } := by
  decide +kernel

/-- Lowering LANE_TIMEOUT, chapter 10: 5 becomes 10, and the first-write limit of 40 has passed. -/
theorem test_timer_limit_write :
    gives (exec (.timerLimitWrite .laneTimeout 0 5) { receiving with tick := 4000 }) fun t =>
      t.items.laneTimeout == 10 && (t.lane 0).timer == some { start := 0, reported := true } := by decide +kernel

theorem test_attn_mask_write :
    gives (exec (.attnMaskWrite 0 4) { running with attn := { AttnFlags.clear with linkErr := true } }) fun t =>
      t.items.attnMask == 4 && !attnLow t := by decide +kernel

theorem test_index_select :
    gives (exec (.indexSelect 0 0x000900FF) running) fun t => t.sel == { frame := 7, entry := 255 } := by decide +kernel

/-- F4 of the worked session: the read returns 4 and clears LINK_ERR. -/
theorem test_attn_cause_read :
    gives (exec (.attnCauseRead 0) { running with attn := { AttnFlags.clear with linkErr := true } }) fun t =>
      t.link.answer == { resp := .ok, item := 4, index := 0, data := 4 } && t.attn == AttnFlags.clear := by decide +kernel

theorem test_seal_next_pop :
    gives (exec .sealNextPop sealed0) fun t =>
      t.sealQ == [] && t.lastPop == some { frame := 0, serial := 1, imageLength := 5120 } &&
        (t.frame 0).state == .sealed && t.link.answer.data == 0 := by decide +kernel

/-- F2 of the worked session: START from the default layout: RUNNING, DONE, data 1. -/
theorem test_start :
    gives (exec (.start 0) State.reset) fun t =>
      t.run.global == .running && t.run.last == some (.done, .start) && t.link.answer.data == 1 := by decide +kernel

theorem test_stop :
    gives (exec (.stop 0) (open0 [entry16] 4608 running)) fun t =>
      t.run.global == .stopping && (t.frame 0).sealCause == some .stop && t.run.running == some .stop &&
        t.link.answer.data == 0 := by decide +kernel

theorem test_halt :
    gives (exec (.halt 0) receiving) fun t =>
      (t.lane 0).results.map (·.code) == [ResultCode.voidHalt] && t.run.running == some .halt := by decide +kernel

theorem test_enter_config :
    gives (exec (.enterConfig 0) { modLane 3 (fun ln => { ln with state := .muted }) running with
      run := { running.run with global := .stopped } })
      fun t => t.run.global == .config && (t.lane 3).state == .idle := by decide +kernel

theorem test_reset_core :
    gives (exec (.resetCore 0) { waiting .noFrame receiving with tick := 9 }) fun t =>
      t.run.global == .config && t.tick == 0 && t.waitList.isEmpty && t.port.answers.map (·.code) == [RespCode.refused] &&
        t.run.last == some (.done, .resetCore) && t.link.answer.data == 1 := by decide +kernel

theorem test_flush_class :
    gives (exec (.flushClass 0) (open0 [entry16] 4608 running)) fun t =>
      (t.frame 0).sealCause == some .flush && t.link.answer.data == 1 := by decide +kernel

theorem test_release :
    gives (exec (.release 0) (frame0 .drained running)) fun t =>
      t.frame 0 == Frame.free && t.owed == 1 && t.link.answer.data == 1 := by decide +kernel

theorem test_discard :
    gives (exec (.discard 0) sealed0) fun t => t.frame 0 == Frame.free && t.sealQ == [] && t.owed == 1 := by decide +kernel

theorem test_redrain :
    gives (exec (.redrain 0) (frame0 .held running)) fun t => (t.frame 0).state == .sealed && t.sealQ == [0] := by
  decide +kernel

/-- R3: a write of lane 1, which a write of the waiting lane 0 precedes, is taken, and so is a plain write behind both. -/
theorem test_untaken_in_no_ones_way :
    let s := setUntaken [full (laneAddr 0 64) (zeroBytes 8), full (laneAddr 1 0) (zeroBytes 8), full 0 (zeroBytes 8)]
      (waiting .noFrame running)
    gives (exec (.bodyWrite (.waiting 0)) s) (fun t => t == s) ∧
      gives (exec (.controlAreaWrite (.waiting 1)) s) (fun t =>
        (t.lane 1).refusedWr == 1 && t.port.untaken.map (·.addr) == [laneAddr 0 64, 0]) ∧
      gives (exec (.plainRequest (.write (.waiting 2))) s) (fun t =>
        t.port.passQ.length == 1 && t.port.untaken.map (·.addr) == [laneAddr 0 64, laneAddr 1 0]) := by decide +kernel

theorem test_reset_assert :
    gives (exec .resetAssert { running with tick := 9 }) fun t => t.resetLow && t.tick == 0 := by decide +kernel

theorem test_hard_reset :
    gives (exec .hardReset { burstOut with resetLow := true }) fun t =>
      t.port.late == [0] && t.run.global == .config && !t.resetLow && t.port.answers.isEmpty := by decide +kernel

/-! ## Witnesses: states and operands that meet the hypotheses of each statement -/

/-- A presented write that lane `l` takes. -/
theorem takesWrite {s : State} {w : WriteReq} {l : LaneNo} {off : Nat}
    (h : s.resetLow = false ∧ w.wf = true ∧ s.port.untaken = [] ∧ routeWrite s w = .aperture l off ∧
      (s.lane l).held = none ∧ (s.lane l).state ≠ .waiting ∧ s.port.writes.length < listCapacity) :
    LaneTakesWrite s (.present w) l off w :=
  ⟨h.1, h.2.1, rfl, show NoneFor _ _ _ from h.2.2.1 ▸ fun _ e => (nomatch e), h.2.2.2.1, h.2.2.2.2.1, h.2.2.2.2.2.1, h.2.2.2.2.2.2⟩

/-- A waiting write at the head of its intake that lane `l` takes, although an earlier write, addressed to lane `k`, waits. -/
theorem takesWaiting {s : State} {v w : WriteReq} {k l : LaneNo} {off o : Nat}
    (h : s.resetLow = false ∧ s.port.untaken = [v, w] ∧ routeWrite s v = .aperture k o ∧ k ≠ l ∧ routeWrite s w = .aperture l off ∧
      (s.lane l).held = none ∧ (s.lane l).state ≠ .waiting ∧ s.port.writes.length < listCapacity) :
    LaneTakesWrite s (.waiting 1) l off w := by
  obtain ⟨h1, h2, h3, h4, h5⟩ := h
  refine ⟨h1, rfl, by simp [writeAt, h2], ?_, h5⟩
  show NoneFor s l (s.port.untaken.take 1)
  intro x hx q
  obtain rfl : x = v := by simpa [h2] using hx
  rw [h3]; intro e; cases e; exact h4 rfl

/-- The hypotheses of a read that lane `l` takes, and of one that the drain monitor takes, are decided as they stand. -/
theorem takesRead {s : State} {r : ReadReq} {l : LaneNo} {off : Nat}
    (h : s.resetLow = false ∧ r.wf = true ∧ routeRead s r = .aperture l off ∧ s.port.reads.length < listCapacity) :
    LaneTakesRead s r l off := h
theorem frameTakes {s : State} {r : ReadReq} {f : FrameNo} {off : Nat}
    (h : s.resetLow = false ∧ r.wf = true ∧ routeRead s r = .frame f off ∧ s.port.reads.length < listCapacity) :
    FrameTakesRead s r f off := h
theorem takesAction {s : State}
    (h : s.resetLow = false ∧ (s.run.running = none ∨ s.run.running = some .stop ∨ s.run.running = some .halt)) :
    TakesFrameAction s := h

/-- An answer to the request in slot 0. -/
theorem answersSlot {s : State} {btag : Nat} {st : Machine.Stream} {r : OpenReq} {data : List Byte} (o : Outstanding)
    (h : s.resetLow = false ∧ s.findOutstanding btag = some o ∧ o.origin = .fabric st r.slot ∧
      s.findRecord st r.slot = some r ∧ dataWf data = true ∧ data.length = o.req.dataBytes) :
    Answers s btag st r data := ⟨o, h⟩

/-- The outstanding request that `forwarded` adds. -/
def out0 (st : Machine.Stream) (body : BufBody) : Outstanding :=
  { btag := 0, origin := .fabric st 0, req := { addr := 0, body := body } }

theorem witness_StepTakesFront :
    ({ running with pending := [.tickAdvance, .freePulse] } : State).pending = .tickAdvance :: [.freePulse] := rfl

/-- The last beat of lane 15's aperture and of frame 7, and the first byte past the frame region. -/
theorem witness_RoutePlacesAddresses :
    State.reset.run.global = .config ∧ running.run.global ≠ .config ∧
      (shapeFails (laneAddr 15 67108856) 8 = false ∧ 67108856 < frameSize running ∧
        (laneAddr 15 67108856 - apertureBase running).toNat = (15 : LaneNo).val * frameSize running + 67108856) ∧
      (shapeFails (frameAt 7 67108856) 8 = false ∧ 16 * frameSize running ≤ (frameAt 7 67108856 - apertureBase running).toNat ∧
        (7 : FrameNo).val < frameCount running ∧
        (frameAt 7 67108856 - frameBase running).toNat = (7 : FrameNo).val * frameSize running + 67108856) ∧
      (shapeFails (frameAt 8 0) 8 = false ∧ 16 * frameSize running ≤ (frameAt 8 0 - apertureBase running).toNat ∧
        frameCount running * frameSize running ≤ (frameAt 8 0 - frameBase running).toNat) := by decide +kernel

/-- A write presented in CONFIG, a write that waits behind another, and a crossing read that touches no region. -/
theorem witness_PlainRequestForwarded :
    (State.reset.resetLow = false ∧ (full 0x10C000FC0 (zeroBytes 128)).wf = true ∧
      PlainClass State.reset 0x10C000FC0 128 ∧ State.reset.port.writes.length < listCapacity) ∧
    (let s := setUntaken [full (laneAddr 0 64) (zeroBytes 8), full 0xA0000000 (zeroBytes 8)] running
     WriteSource.wf (.waiting 1) = true ∧ writeAt s (.waiting 1) = some (full 0xA0000000 (zeroBytes 8)) ∧
      PlainClass s 0xA0000000 8) ∧
    ({ tag := 0, addr := 0x40000FC0, beats := 16 } : ReadReq).wf = true ∧ PlainClass running 0x40000FC0 (8 * 16) := by
  unfold PlainClass; decide +kernel

theorem witness_PlainBufferAnswerPassed :
    Answers (forwarded .read .plain .plain (.read 2) running) 0 .read (record0 .plain .plain) (zeroBytes 16) ∧
      (record0 .plain .plain).origin = .plain ∧
      (forwarded .read .plain .plain (.read 2) running).run.running ≠ some .resetCore :=
  ⟨answersSlot (out0 .read (.read 2)) (by decide +kernel), by decide +kernel, by decide +kernel⟩

theorem witness_PortRefusals :
    running.resetLow = false ∧ running.run.global ≠ .config ∧
      ((full 0x10C000FC0 (zeroBytes 128)).wf = true ∧ running.port.writes.length < listCapacity ∧
        shapeFails 0x10C000FC0 128 = true ∧ touchesRegions running 0x10C000FC0 128 = true) ∧
      (({ tag := 0, addr := 0x7FFFFFC0, beats := 16 } : ReadReq).wf = true ∧ running.port.reads.length < listCapacity ∧
        shapeFails 0x7FFFFFC0 128 = true ∧ touchesRegions running 0x7FFFFFC0 128 = true) ∧
      routeWrite running (full 0x94001000 (zeroBytes 8)) = .frame 5 4096 := by decide +kernel

/-- Neither side ready; the pass-through side alone; both, the last grant fill; the fill side alone; a trailer held back. -/
theorem witness_ArbiterGrants :
    (running.resetLow = false ∧ running.port.passQ = [] ∧ fillReady running = false ∧ running.fill.queue = []) ∧
      (let e : PassEntry := { stream := .read, slot := 0, req := { addr := 0x40000000, body := .read 4 } }
       let s : State := { running with port := { running.port with passQ := [e] } }
       s.port.passQ = [e] ∧ fillReady s = false ∧ s.port.lastGrant = .fill) ∧
      (burstOut.fill.queue = packHeadJob 0 1 0 26 0 :: [] ∧
        burstOut.fill.progress = some { next := 128, issued := 1, answered := 0 } ∧
        fillReady burstOut = true ∧ burstOut.port.passQ = []) ∧
      (let j : Job := { kind := .directory, frame := 0, lane := none, start := 4608, stop := 5120, source := .zeros }
       let s (a : Nat) : State :=
         { running with fill := { queue := [j], progress := some { next := 5056, issued := 4, answered := a } } }
       fillReady (s 3) = false ∧ fillReady (s 4) = true) := by decide +kernel

/-- The last byte of a block, and the last byte before the trailer of a DIRECTORY job; a job of each source. -/
theorem witness_BurstsStayInTheirBlock :
    let j : Job := { kind := .directory, frame := 0, lane := none, start := 4608, stop := 5120, source := .directory 4608 1 5120 1 }
    (4735 < j.stop ∧ j.kind = .directory ∧ 5055 < j.stop - 64) ∧ (padJob 0 0 entry16).source = .zeros ∧
      (packHeadJob 0 1 0 26 0).source = .packHead 1 0 26 0 ∧
      ((fileHeadJob 0 0 0 4096).source = .fileHead 0 ∧ receiving.entry? 0 0 = some entry16) ∧
      (j.source = .directory 4608 1 5120 1 ∧ gathering.entry? j.frame 0 = some { entry16 with state := .complete } ∧
        4608 + 64 * 0 + 64 ≤ 5120 - 64) := by decide +kernel

theorem witness_AnswersAfterResets :
    (Answers afterCoreReset 0 .read { record0 .plain .plain with preReset := true } (zeroBytes 16)) ∧
      (running.resetLow = false ∧
        4 ∈ ({ running with port := { Port.reset with late := [4, 5] } } : State).port.late) ∧
      (let s : State := { running with port := { Port.reset with
          outstanding := [{ btag := 0, origin := .dropped, req := { addr := 0, body := .write [] } }] } }
       0 ∉ s.port.late ∧ s.findOutstanding 0 = some { btag := 0, origin := .dropped, req := { addr := 0, body := .write [] } }) :=
  ⟨answersSlot (out0 .read (.read 2)) (by decide +kernel), by decide +kernel, by decide +kernel⟩

/-- The last beat of the control area, in IDLE and in RECEIVING, presented, and waiting behind a write of lane 1. -/
theorem witness_ControlAreaWriteRefused :
    let w := full (laneAddr 0 56) (zeroBytes 8)
    LaneTakesWrite running (.present w) 0 56 w ∧ LaneTakesWrite receiving (.present w) 0 56 w ∧
      LaneTakesWrite (setUntaken [full (laneAddr 1 64) (zeroBytes 8), w] voiding) (.waiting 1) 0 56 w ∧ laneWriteKind 56 w.bytes = .controlArea :=
  ⟨takesWrite (by decide +kernel), takesWrite (by decide +kernel), takesWaiting (k := 1) (o := 64) (v := full (laneAddr 1 64) (zeroBytes 8)) (by decide +kernel), by decide +kernel⟩

/-- Each test failing first: a bad marker, CONFIG, class 4, a length of 2^40; and the longest length that fits, 67,103,680. -/
theorem witness_AnnounceTests :
    let a (cls len : Nat) := parseAnnounce (announceBytes cls 0 len)
    validateAnnounce running (parseAnnounce (zeroBytes 64)) = some .refusedMalformed ∧
      validateAnnounce State.reset (a 0 16) = some .refusedStopping ∧
      validateAnnounce running (a 4 16) = some .refusedClass ∧ validateAnnounce running (a 3 16) = none ∧
      validateAnnounce running (a 0 1099511627776) = some .refusedOversize ∧
      validateAnnounce running (a 0 67104192) = none ∧
      validateAnnounce running (a 0 67104193) = some .refusedOversize := by decide +kernel

/-- An announce of class 4, in IDLE, MUTED, RECEIVING and VOIDING; a queue of three results and a full one. -/
theorem witness_AnnounceRefused :
    let w := full (laneAddr 0 0) (announceBytes 4 0 16)
    let muted := modLane 0 (fun ln => { ln with state := .muted }) running
    LaneTakesWrite running (.present w) 0 0 w ∧ LaneTakesWrite muted (.present w) 0 0 w ∧
      LaneTakesWrite receiving (.present w) 0 0 w ∧ LaneTakesWrite voiding (.present w) 0 0 w ∧
      laneWriteKind 0 w.bytes = .announce ∧
      validateAnnounce running (parseAnnounce (w.bytes.filterMap id)) = some .refusedClass ∧
      validateAnnounce receiving (parseAnnounce (w.bytes.filterMap id)) = some .refusedClass ∧
      validateAnnounce voiding (parseAnnounce (w.bytes.filterMap id)) = some .refusedClass ∧
      ((running.lane 0).state = .idle ∧ (muted.lane 0).state = .muted ∧ (receiving.lane 0).state = .receiving ∧
        (voiding.lane 0).state = .voiding) ∧ stopIsOver running = false ∧ stopIsOver muted = false ∧
      (let r := refusalResult .refusedClass false false 5 16
       ({ Lane.reset with results := [r, r, r] }).results.length < 4 ∧
        4 ≤ ({ Lane.reset with results := [r, r, r, r] }).results.length) :=
  ⟨takesWrite (by decide +kernel), takesWrite (by decide +kernel), takesWrite (by decide +kernel),
   takesWrite (by decide +kernel), by decide +kernel⟩

/-- A valid announce in RECEIVING, and in VOIDING. -/
theorem witness_AnnounceSupersedes :
    LaneTakesWrite receiving (.present (announceW 16)) 0 0 (announceW 16) ∧
      LaneTakesWrite voiding (.present (announceW 16)) 0 0 (announceW 16) ∧
      laneWriteKind 0 (announceW 16).bytes = .announce ∧
      validateAnnounce receiving (parseAnnounce ((announceW 16).bytes.filterMap id)) = none ∧
      validateAnnounce voiding (parseAnnounce ((announceW 16).bytes.filterMap id)) = none ∧
      (receiving.lane 0).state = .receiving ∧ (voiding.lane 0).state = .voiding :=
  ⟨takesWrite (by decide +kernel), takesWrite (by decide +kernel), by decide +kernel⟩

/-- A file of 16 bytes in a frame that holds none, one that fits exactly (cursor + 512 + 512 = F), and one of 0 bytes. -/
theorem witness_AnnouncePlaced :
    let ok (len : Nat) (s : State) : Prop :=
      laneWriteKind 0 (announceW len).bytes = .announce ∧
      validateAnnounce s (parseAnnounce ((announceW len).bytes.filterMap id)) = none ∧
      ann len = (parseAnnounce ((announceW len).bytes.filterMap id)).valid ∧ (s.lane 0).state = .idle ∧
      s.laneJobs 0 + (if (ann len).len = 0 then 2 else 1) ≤ 2 ∧ s.classFrame (ann len).cls = some 0 ∧
      (s.frame 0).state = .opened ∧ (s.frame 0).entries.length + 1 ≤ 2048 ∧
      (s.frame 0).cursor + recordSize (ann len).len + dirSize ((s.frame 0).entries.length + 1) ≤ frameSize s
    (LaneTakesWrite (open0 [] 4096 running) (.present (announceW 16)) 0 0 (announceW 16) ∧ ok 16 (open0 [] 4096 running)) ∧
      (LaneTakesWrite (open0 [] 67107840 running) (.present (announceW 16)) 0 0 (announceW 16) ∧
        ok 16 (open0 [] 67107840 running)) ∧
      (LaneTakesWrite (open0 [] 4096 running) (.present (announceW 0)) 0 0 (announceW 0) ∧ ok 0 (open0 [] 4096 running)) :=
  ⟨⟨takesWrite (by decide +kernel), by decide +kernel⟩, ⟨takesWrite (by decide +kernel), by decide +kernel⟩,
   takesWrite (by decide +kernel), by decide +kernel⟩

/-- A file of 16 bytes, and one of 0 bytes, with every frame FREE. -/
theorem witness_AnnounceOpensFrame :
    let ok (len : Nat) : Prop :=
      laneWriteKind 0 (announceW len).bytes = .announce ∧
      validateAnnounce running (parseAnnounce ((announceW len).bytes.filterMap id)) = none ∧
      ann len = (parseAnnounce ((announceW len).bytes.filterMap id)).valid ∧ (running.lane 0).state = .idle ∧
      running.laneJobs 0 + (if (ann len).len = 0 then 2 else 1) ≤ 2 ∧ running.classFrame (ann len).cls = none ∧
      (0 : FrameNo).val < frameCount running ∧ (running.frame 0).state = .free ∧
      ∀ g : FrameNo, g.val < (0 : FrameNo).val → (running.frame g).state ≠ .free
    (LaneTakesWrite running (.present (announceW 16)) 0 0 (announceW 16) ∧ ok 16) ∧
      (LaneTakesWrite running (.present (announceW 0)) 0 0 (announceW 0) ∧ ok 0) :=
  ⟨⟨takesWrite (by decide +kernel), by decide +kernel⟩, takesWrite (by decide +kernel), by decide +kernel⟩

/-- Two jobs of the lane queued; and no FREE frame. -/
theorem witness_AnnounceHeld :
    let twoJobs : State := { running with fill := { queue := [fileHeadJob 0 0 0 4096, fileHeadJob 0 0 1 4608]
                                                    progress := some { next := 4096, issued := 0, answered := 0 } } }
    (LaneTakesWrite twoJobs (.present (announceW 16)) 0 0 (announceW 16) ∧
      validateAnnounce twoJobs (parseAnnounce ((announceW 16).bytes.filterMap id)) = none ∧
      (twoJobs.lane 0).state = .idle ∧ 2 < twoJobs.laneJobs 0 + (if (ann 16).len = 0 then 2 else 1)) ∧
    (LaneTakesWrite (allHeld running) (.present (announceW 16)) 0 0 (announceW 16) ∧
      validateAnnounce (allHeld running) (parseAnnounce ((announceW 16).bytes.filterMap id)) = none ∧
      ann 16 = (parseAnnounce ((announceW 16).bytes.filterMap id)).valid ∧ ((allHeld running).lane 0).state = .idle ∧
      (allHeld running).laneJobs 0 + (if (ann 16).len = 0 then 2 else 1) ≤ 2 ∧
      (allHeld running).classFrame (ann 16).cls = none ∧
      ∀ f : FrameNo, f.val < frameCount (allHeld running) → ((allHeld running).frame f).state ≠ .free) :=
  ⟨⟨takesWrite (by decide +kernel), by decide +kernel⟩, takesWrite (by decide +kernel), by decide +kernel⟩

/-- The whole record, and its last beat; a lane with a file and no result, and one with a result and no file. -/
theorem witness_StatusReadAnswered :
    (LaneTakesRead receiving { tag := 1, addr := laneAddr 0 0, beats := 8 } 0 0 ∧ 0 + 8 * 8 ≤ 64) ∧
      (LaneTakesRead receiving { tag := 1, addr := laneAddr 0 56, beats := 1 } 0 56 ∧ 56 + 8 * 1 ≤ 64) ∧
      ((receiving.lane 0).file = some (0, 0) ∧ receiving.entry? 0 0 = some entry16 ∧ (receiving.lane 0).results = []) ∧
      (let r := refusalResult .refusedClass false false 5 16
       ((appendResult 0 r running).lane 0).results = r :: [] ∧ ((appendResult 0 r running).lane 0).file = none) :=
  ⟨⟨takesRead (by decide +kernel), by decide⟩, ⟨takesRead (by decide +kernel), by decide⟩, by decide +kernel⟩

theorem witness_BodyReadsServed :
    LaneTakesRead receiving { tag := 1, addr := laneAddr 0 56, beats := 2 } 0 56 ∧
      (LaneTakesRead running { tag := 1, addr := laneAddr 0 64, beats := 1 } 0 64 ∧ (running.lane 0).state = .idle) ∧
      (LaneTakesRead receiving { tag := 1, addr := laneAddr 0 80, beats := 1 } 0 80 ∧ (receiving.lane 0).state = .receiving ∧
        (receiving.lane 0).file = some (0, 0) ∧ receiving.entry? 0 0 = some entry16 ∧ entry16.len ≤ 80 - 64) ∧
      (LaneTakesRead voiding { tag := 1, addr := laneAddr 0 72, beats := 2 } 0 72 ∧ (voiding.lane 0).state = .voiding ∧
        (voiding.lane 0).file = some (0, 0) ∧ voiding.entry? 0 0 = some { entry16 with state := .voiding } ∧
        72 - 64 < entry16.len) :=
  ⟨takesRead (by decide +kernel), ⟨takesRead (by decide +kernel), by decide +kernel⟩,
   ⟨takesRead (by decide +kernel), by decide +kernel⟩, takesRead (by decide +kernel), by decide +kernel⟩

/-- The state of a held JOB_LIMIT announce of 16 bytes, and of one of 0 bytes, the class's frame OPEN. -/
theorem witness_HeldAnnounceRetried :
    let h (len : Nat) : Held := { ann := ann len, reason := .jobLimit, timer := { start := 0, reported := false }, slot := 0 }
    let s (len : Nat) := modLane 0 (fun ln => { ln with held := some (h len) }) (waiting .jobLimit (open0 [] 4096 running))
    let ok (len : Nat) : Prop := (s len).resetLow = false ∧ ((s len).lane 0).state = .waiting ∧
      ((s len).lane 0).held = some (h len) ∧ (s len).laneJobs 0 + (if (h len).ann.len = 0 then 2 else 1) ≤ 2 ∧
      ((s len).findRecord .write (h len).slot).isSome = true ∧ (s len).classFrame (h len).ann.cls = some 0 ∧
      ((s len).frame 0).state = .opened ∧ ((s len).frame 0).entries.length + 1 ≤ 2048 ∧
      ((s len).frame 0).cursor + recordSize (h len).ann.len + dirSize (((s len).frame 0).entries.length + 1) ≤
        frameSize (s len)
    ok 16 ∧ ok 0 := by
  decide +kernel

/-- A retry whose job test fails; one that seals a misfit, frame 1 FREE; one with no OPEN frame and every frame HELD. -/
theorem witness_HeldAnnounceRetried_others :
    let held (s : State) : Prop := s.resetLow = false ∧ (s.lane 0).state = .waiting ∧
      ((s.lane 0).held.any fun h => h.reason == .jobLimit && h.ann.len == 16 && (s.findRecord .write h.slot).isSome) = true
    let busy := waiting .jobLimit { running with fill := {
      queue := [fileHeadJob 0 0 0 4096, padJob 0 0 entry16], progress := some { next := 4096, issued := 0, answered := 0 } } }
    let misfit := waiting .jobLimit (open0 [] 67108352 running)
    let none_ := waiting .jobLimit (allHeld running)
    (held busy ∧ 2 < busy.laneJobs 0 + 1) ∧
      (held misfit ∧ misfit.laneJobs 0 + 1 ≤ 2 ∧ misfit.classFrame 0 = some 0 ∧ (misfit.frame 0).state = .opened ∧
        (misfit.frame 0).cls = some 0 ∧
        frameSize misfit < (misfit.frame 0).cursor + recordSize 16 + dirSize ((misfit.frame 0).entries.length + 1) ∧
        (misfit.frame 1).state = .free) ∧
      (held none_ ∧ none_.laneJobs 0 + 1 ≤ 2 ∧ none_.classFrame 0 = none ∧
        ∀ g : FrameNo, (none_.frame g).state ≠ .free) := by decide +kernel

/-- The same misfit with frame 1 the lowest-numbered FREE frame. -/
theorem witness_MisfitSealsTheFrame_opens :
    let s := open0 [] 67108352 running
    LaneTakesWrite s (.present (announceW 16)) 0 0 (announceW 16) ∧ laneWriteKind 0 (announceW 16).bytes = .announce ∧
      validateAnnounce s (parseAnnounce ((announceW 16).bytes.filterMap id)) = none ∧ (s.lane 0).state = .idle ∧
      s.laneJobs 0 + (if (ann 16).len = 0 then 2 else 1) ≤ 2 ∧ s.classFrame 0 = some 0 ∧ (s.frame 0).state = .opened ∧
      (s.frame 0).cls = some 0 ∧ ¬ Fits s 0 (ann 16).len ∧ LowestFree s 1 := by
  unfold Fits LowestFree
  exact ⟨takesWrite (by decide +kernel), by decide +kernel⟩

/-- A frame 512 bytes short of the fit, every other frame HELD. -/
theorem witness_MisfitSealsTheFrame :
    let s := open0 [] 67108352 (allHeld running)
    LaneTakesWrite s (.present (announceW 16)) 0 0 (announceW 16) ∧ laneWriteKind 0 (announceW 16).bytes = .announce ∧
      validateAnnounce s (parseAnnounce ((announceW 16).bytes.filterMap id)) = none ∧ (s.lane 0).state = .idle ∧
      s.laneJobs 0 + (if (ann 16).len = 0 then 2 else 1) ≤ 2 ∧ s.classFrame 0 = some 0 ∧ (s.frame 0).state = .opened ∧
      (s.frame 0).cls = some 0 ∧
      frameSize s < (s.frame 0).cursor + recordSize (ann 16).len + dirSize ((s.frame 0).entries.length + 1) ∧
      ∀ g : FrameNo, g.val < frameCount s → (s.frame g).state ≠ .free :=
  ⟨takesWrite (by decide +kernel), by decide +kernel⟩

/-- The body's last beat, at body offset 8, and a write that reaches past L. -/
theorem witness_BodyWriteForwarded :
    let w8 := full (laneAddr 0 72) (zeroBytes 8)
    let w24 := full (laneAddr 0 64) (zeroBytes 24)
    (LaneTakesWrite receiving (.present w8) 0 72 w8 ∧ (receiving.lane 0).state = .receiving ∧
      (receiving.lane 0).file = some (0, 0) ∧ receiving.entry? 0 0 = some entry16 ∧ entry16.state = .placed ∧
      bodyPlan entry16.len (receiving.lane 0).extents 8 w8.bytes =
        .forward w8.bytes { start := 8, stop := 16 } [{ start := 8, stop := 16 }]) ∧
    (LaneTakesWrite receiving (.present w24) 0 64 w24 ∧
      bodyPlan entry16.len (receiving.lane 0).extents 0 w24.bytes =
        .forward ((zeroBytes 16).map some) { start := 0, stop := 16 } [{ start := 0, stop := 16 }]) :=
  ⟨⟨takesWrite (by decide +kernel), by decide +kernel⟩, takesWrite (by decide +kernel), by decide +kernel⟩

/-- Bytes 1 and 2 of a body of 3, forwarded beside an extent; none in range; a broken range; an overlap; a ninth extent. -/
theorem witness_ForwardedPlanIsItsClaim :
    let w : List (Option Byte) := [none, some 1, some 2, none, none, none, none, none]
    let hole : List (Option Byte) := [some 1, none, some 2, none, none, none, none, none]
    let eight : List Extent := (List.range 8).map fun i => { start := 16 + 2 * i, stop := 17 + 2 * i }
    let c : Extent := { start := 1, stop := 3 }
    (w.length % 8 = 0 ∧ (∀ x ∈ ([{ start := 0, stop := 1 }] : List Extent), x.stop ≤ c.start ∨ c.stop ≤ x.start) ∧
      (mergeExtents c [{ start := 0, stop := 1 }]).length ≤ 8 ∧
      bodyPlan 3 [{ start := 0, stop := 1 }] 0 w = .forward w c [{ start := 0, stop := 3 }]) ∧
    bodyPlan 1 [] 0 w = .noted true ∧ (hole[0]?.any Option.isSome = true ∧ hole[1]?.any Option.isSome = false ∧
      hole[2]?.any Option.isSome = true ∧ bodyPlan 8 [] 0 hole = .refused) ∧
    bodyPlan 3 [{ start := 2, stop := 4 }] 0 w = .refused ∧
    (8 < (mergeExtents c eight).length ∧ bodyPlan 40 eight 0 w = .refused) := by decide +kernel

/-- Bytes 1 and 2 span exactly the range from 1 to 3, whatever lies past the body. -/
theorem witness_ForwardedPlanIsItsClaim_spans :
    let w : List (Option Byte) := [none, some 1, some 2, none, none, none, none, none]
    ∀ q, (0 ≤ q ∧ q < 3 ∧ w[q - 0]?.any Option.isSome = true) ↔ 1 ≤ q ∧ q < 3 := by
  intro w q
  by_cases h : q < 3
  · interval_cases q <;> decide
  · simp [h]

theorem witness_MergeKeepsExtents :
    let es : List Extent := [{ start := 0, stop := 4 }, { start := 8, stop := 16 }]
    let c : Extent := { start := 4, stop := 8 }
    es.Pairwise (fun x y => x.stop < y.start) ∧ (∀ x ∈ es, x.start < x.stop ∧ x.stop ≤ 16) ∧ c.start < c.stop ∧
      c.stop ≤ 16 ∧ overlaps c es = false ∧ mergeExtents c es = [{ start := 0, stop := 16 }] := by decide +kernel

/-- IDLE, VOIDING, MUTED, an overlap, and a write at body offset L; a write behind a held announce, one behind another write, and
a head that waits. -/
theorem witness_BodyWriteNotForwarded :
    let w := full (laneAddr 0 64) (zeroBytes 8)
    let past := full (laneAddr 0 80) (zeroBytes 8)
    let muted := modLane 0 (fun ln => { ln with state := .muted }) running
    let claimed := modLane 0 (fun ln => { ln with extents := [{ start := 7, stop := 8 }] }) receiving
    let held := waiting .noFrame running
    ((LaneTakesWrite running (.present w) 0 64 w ∧ (running.lane 0).state = .idle) ∧
      (LaneTakesWrite voiding (.present w) 0 64 w ∧ (voiding.lane 0).state = .voiding) ∧
      (LaneTakesWrite muted (.present w) 0 64 w ∧ (muted.lane 0).state = .muted) ∧
      (LaneTakesWrite claimed (.present w) 0 64 w ∧ (claimed.lane 0).file = some (0, 0) ∧
        bodyPlan entry16.len (claimed.lane 0).extents 0 w.bytes = .refused) ∧
      (LaneTakesWrite receiving (.present past) 0 80 past ∧
        bodyPlan entry16.len (receiving.lane 0).extents 16 past.bytes = .noted true)) ∧
    (held.resetLow = false ∧ routeWrite held w = .aperture 0 64 ∧ w.wf = true ∧ (held.lane 0).held ≠ none) ∧
    (routeWrite (setUntaken [past] receiving) w = .aperture 0 64 ∧ past ∈ (setUntaken [past] receiving).port.untaken ∧
      routeWrite (setUntaken [past] receiving) past = .aperture 0 80) ∧
    ((setUntaken [w] held).port.untaken[0]? = some w ∧ ((setUntaken [w] held).lane 0).state = .waiting) :=
  ⟨⟨⟨takesWrite (by decide +kernel), by decide +kernel⟩, ⟨takesWrite (by decide +kernel), by decide +kernel⟩,
    ⟨takesWrite (by decide +kernel), by decide +kernel⟩, ⟨takesWrite (by decide +kernel), by decide +kernel⟩,
    takesWrite (by decide +kernel), by decide +kernel⟩, by decide +kernel⟩

/-- The last write of a body; and a write of a VOIDING lane. -/
theorem witness_BodyWriteOkayTaken :
    let body : BufBody := .write ((zeroBytes 16).map some)
    let r := record0 (.bodyWrite wholeWrite) (.aperture 0)
    let late := forwarded .write (.bodyWrite wholeWrite) (.aperture 0) body voiding
    (Answers lastWriteOut 0 .write r [] ∧ lastWriteOut.findOutstanding 0 = some (out0 .write body) ∧
      r.origin = .bodyWrite wholeWrite ∧ r.preReset = false ∧ (lastWriteOut.lane 0).file = some (0, 0) ∧
      lastWriteOut.entry? 0 0 = some entry16 ∧ (lastWriteOut.lane 0).state = .receiving ∧ entry16.state = .placed ∧
      (lastWriteOut.lane 0).outstanding ≤ 1 ∧ (lastWriteOut.lane 0).extents = [{ start := 0, stop := entry16.len }]) ∧
    (Answers late 0 .write r [] ∧ (late.lane 0).file = some (0, 0) ∧
      late.entry? 0 0 = some { entry16 with state := .voiding } ∧ (late.lane 0).state = .voiding) :=
  ⟨⟨answersSlot (out0 .write (.write ((zeroBytes 16).map some))) (by decide +kernel), by decide +kernel⟩,
   answersSlot (out0 .write (.write ((zeroBytes 16).map some))) (by decide +kernel), by decide +kernel⟩

theorem witness_BodyWriteFaultVoids :
    let body : BufBody := .write ((zeroBytes 16).map some)
    let r := record0 (.bodyWrite wholeWrite) (.aperture 0)
    let late := forwarded .write (.bodyWrite wholeWrite) (.aperture 0) body voiding
    (Answers late 0 .write r [] ∧ r.origin = .bodyWrite wholeWrite ∧ r.preReset = false ∧ (late.lane 0).lastWrite = none ∧
      (late.lane 0).state = .voiding) ∧
    (Answers lastWriteOut 0 .write r [] ∧ (lastWriteOut.lane 0).lastWrite = none ∧
      (lastWriteOut.lane 0).state = .receiving ∧ (lastWriteOut.lane 0).file = some (0, 0)) :=
  ⟨⟨answersSlot (out0 .write (.write ((zeroBytes 16).map some))) (by decide +kernel), by decide +kernel⟩,
   answersSlot (out0 .write (.write ((zeroBytes 16).map some))) (by decide +kernel), by decide +kernel⟩

/-- A read of which the controller was asked for one beat of two. -/
theorem witness_BodyReadAnswered :
    let i : BodyReadInfo := { lane := 0, k := 8, len := 12 }
    let r := record0 (.bodyRead i) (.aperture 0)
    Answers (forwarded .read (.bodyRead i) (.aperture 0) (.read 1) receiving) 0 .read r (zeroBytes 8) ∧
      r.origin = .bodyRead i ∧ r.preReset = false :=
  ⟨answersSlot (out0 .read (.read 1)) (by decide +kernel), rfl, rfl⟩

theorem witness_FileCompletes :
    written.resetLow = false ∧ (written.lane 0).state = .receiving ∧ (written.lane 0).file = some (0, 0) ∧
      written.entry? 0 0 = some entry16 ∧ entry16.state = .placed ∧ (written.lane 0).lastWrite = some 0 ∧
      written.findRecord .write 0 = some (record0 (.bodyWrite wholeWrite) (.aperture 0)) ∧ written.laneJobs 0 ≤ 1 ∧
      ¬ (64 + entry16.len) % 512 = 0 := by decide +kernel

/-- A void with no held announce; with one, behind a job of the lane, with no FREE frame, and with an OPEN frame it fits. -/
theorem witness_VoidEnds :
    let held (s : State) : State := modLane 0 (fun ln => { ln with
      held := some { ann := ann 16, reason := .voiding, timer := { start := 0, reported := false }, slot := 0 } })
      (addRecord .write { slot := 0, tag := 7, cls := .aperture 0, origin := .heldAnnounce 0, stage := .held, beats := 8
                          preReset := false } s)
    let ok (s : State) : Prop := s.resetLow = false ∧ (s.lane 0).state = .voiding ∧ (s.lane 0).outstanding = 0 ∧
      s.laneJobs 0 ≤ 1 ∧ (s.lane 0).file = some (0, 0) ∧ s.entry? 0 0 = some { entry16 with state := .voiding } ∧
      (s.lane 0).voidCause = some .timeout
    let behind := held { voiding with fill := (jobDone .fileHead (some 0) voiding).fill }
    let noFrame := held { voiding with
      frames := Vector.replicate 8 { (voiding.frame 0) with state := .held }, classTable := Vector.replicate 4 none }
    (ok voiding ∧ (voiding.lane 0).held = none) ∧ (ok behind ∧ behind.laneJobs 0 = 1 ∧ (behind.lane 0).held.isSome = true) ∧
      (ok noFrame ∧ noFrame.laneJobs 0 = 0 ∧ (ann 16).len ≠ 0 ∧ noFrame.classFrame 0 = none ∧
        ∀ g : FrameNo, g.val < frameCount noFrame → (noFrame.frame g).state ≠ .free) ∧
      (ok (held voiding) ∧ ((held voiding).findRecord .write 0).isSome = true ∧ (held voiding).classFrame 0 = some 0 ∧
        ((held voiding).frame 0).state = .opened ∧ ((held voiding).frame 0).entries.length + 1 ≤ 2048 ∧
        ((held voiding).frame 0).cursor + recordSize (ann 16).len + dirSize (((held voiding).frame 0).entries.length + 1) ≤
          frameSize (held voiding)) := by decide +kernel

/-- The held announce opens frame 1, the lowest-numbered FREE one. -/
theorem witness_VoidEnds_opens :
    let s : State := modLane 0 (fun ln => { ln with
      held := some { ann := ann 16, reason := .voiding, timer := { start := 0, reported := false }, slot := 0 } })
      (addRecord .write { slot := 0, tag := 7, cls := .aperture 0, origin := .heldAnnounce 0, stage := .held, beats := 8
                          preReset := false }
        { voiding with
          frames := (Vector.replicate 8 Frame.free).set 0 { (voiding.frame 0) with state := .held }
          classTable := Vector.replicate 4 none })
    s.resetLow = false ∧ (s.lane 0).state = .voiding ∧ (s.lane 0).outstanding = 0 ∧ s.laneJobs 0 = 0 ∧
      (s.lane 0).file = some (0, 0) ∧ s.entry? 0 0 = some { entry16 with state := .voiding } ∧
      (s.lane 0).voidCause = some .timeout ∧ (s.findRecord .write 0).isSome = true ∧ s.classFrame 0 = none ∧
      1 < frameCount s ∧ (s.frame 1).state = .free ∧ (s.frame 0).state ≠ .free := by decide +kernel

theorem witness_SumsAddAndWithdraw :
    ([(0, 1), (5, 2)] : List (Nat × Byte)).Perm [(5, 2), (0, 1)] ∧ 4096 % 512 = 0 ∧
      ({ a := 2147483646, b := 0 } : TwoSum).inRange :=
  ⟨List.Perm.swap _ _ _, rfl, by unfold TwoSum.inRange; decide⟩

/-- The states of a refused read, and of one served without a pass. -/
theorem witness_FrameReadsServed :
    let r : ReadReq := { tag := 1, addr := frameAt 0 128, beats := 16 }
    (FrameTakesRead running r 0 128 ∧ (running.frame 0).state = .free) ∧
      (FrameTakesRead receiving r 0 128 ∧ (receiving.frame 0).state = .opened) ∧
      (FrameTakesRead sealed0 r 0 128 ∧ (sealed0.frame 0).state = .sealed ∧ 128 ≠ 0) ∧
      (FrameTakesRead (frame0 .held running) r 0 128 ∧ ((frame0 .held running).frame 0).state = .held) :=
  ⟨⟨frameTakes (by decide +kernel), by decide +kernel⟩, ⟨frameTakes (by decide +kernel), by decide +kernel⟩,
   ⟨frameTakes (by decide +kernel), by decide +kernel⟩, frameTakes (by decide +kernel), by decide +kernel⟩

theorem witness_DrainPassStarts :
    let r : ReadReq := { tag := 1, addr := frameAt 0 0, beats := 16 }
    (FrameTakesRead sealed0 r 0 0 ∧ (sealed0.frame 0).imageLength = some 5120 ∧ 0 < 5120 ∧
      (sealed0.frame 0).state = .sealed) ∧
    (FrameTakesRead (draining 128 1) r 0 0 ∧ ((draining 128 1).frame 0).imageLength = some 5120 ∧
      ((draining 128 1).frame 0).state = .draining) :=
  ⟨⟨frameTakes (by decide +kernel), by decide +kernel⟩, frameTakes (by decide +kernel), by decide +kernel⟩

/-- A claim from the cursor, one past the end, a re-read and a gap, each of 16 beats. -/
theorem witness_DrainReadTaken :
    let d (c : Nat) : Drain := { Drain.reset with cursor := c, timer := some { start := 0, reported := false } }
    (FrameTakesRead (draining 128 0) { tag := 1, addr := frameAt 0 128, beats := 16 } 0 128 ∧ 128 ≠ 0 ∧
      ((draining 128 0).frame 0).state = .draining ∧ ((draining 128 0).frame 0).drain = some (d 128) ∧
      ((draining 128 0).frame 0).imageLength = some 5120) ∧
    (FrameTakesRead (draining 5120 0) { tag := 1, addr := frameAt 0 5120, beats := 16 } 0 5120 ∧
      ((draining 5120 0).frame 0).drain = some (d 5120)) ∧
    (FrameTakesRead (draining 256 0) { tag := 1, addr := frameAt 0 128, beats := 16 } 0 128 ∧
      ((draining 256 0).frame 0).drain = some (d 256)) ∧
    FrameTakesRead (draining 128 0) { tag := 1, addr := frameAt 0 256, beats := 16 } 0 256 :=
  ⟨⟨frameTakes (by decide +kernel), by decide +kernel⟩, ⟨frameTakes (by decide +kernel), by decide +kernel⟩,
   ⟨frameTakes (by decide +kernel), by decide +kernel⟩, frameTakes (by decide +kernel)⟩

/-- A counted member of a pass, an uncounted member, and a read of no pass. -/
theorem witness_DrainReadAnswered :
    let i (m c : Bool) : DrainReadInfo := { frame := 0, off := 0, member := m, counted := c, lo := 0, hi := 16 }
    let s (m c : Bool) (u : State) := forwarded .read (.drainRead (i m c)) (.frame 0) (.read 2) u
    let r (m c : Bool) := record0 (.drainRead (i m c)) (.frame 0)
    (Answers (s true true (draining 16 1)) 0 .read (r true true) (zeroBytes 16) ∧ (r true true).preReset = false ∧
      ((s true true (draining 16 1)).frame 0).state = .draining ∧
      (((s true true (draining 16 1)).frame 0).drain).isSome = true ∧
      ((s true true (draining 16 1)).frame 0).imageLength = some 5120) ∧
    Answers (s true false (draining 16 1)) 0 .read (r true false) (zeroBytes 16) ∧
    (Answers (s false false (frame0 .held running)) 0 .read (r false false) (zeroBytes 16) ∧
      ((s false false (frame0 .held running)).frame 0).state ≠ .draining) :=
  ⟨⟨answersSlot (out0 .read (.read 2)) (by decide +kernel), by decide +kernel⟩,
   answersSlot (out0 .read (.read 2)) (by decide +kernel),
   answersSlot (out0 .read (.read 2)) (by decide +kernel), by decide +kernel⟩

/-- A pass that is not over, one that fails (broken), one that verifies, and one with AUTO_RELEASE on. -/
theorem witness_PassEvaluated :
    let broken := modFrame 0 (fun fr => { fr with imageFault := true }) (draining 5120 0)
    let auto : State := { draining 5120 0 with items := { Items.reset with autoRelease := 1 } }
    let d : Drain := { Drain.reset with cursor := 5120, timer := some { start := 0, reported := false } }
    ((draining 5056 1).resetLow = false ∧ ((draining 5056 1).frame 0).state = .draining ∧
      ((draining 5056 1).frame 0).imageLength = some 5120) ∧
    ((broken.frame 0).drain = some d ∧ (broken.frame 0).imageFault = true) ∧
    (((draining 5120 0).frame 0).drain = some d ∧ d.broken = false ∧ ((draining 5120 0).frame 0).imageFault = false ∧
      d.sums = ((draining 5120 0).frame 0).sums ∧ (draining 5120 0).items.autoRelease = 0) ∧
    (auto.items.autoRelease ≠ 0 ∧ auto.waitList = [] ∧ (auto.frame 0).drain = some d) := by decide +kernel

/-- A pass that verifies with AUTO_RELEASE on while lane 0 waits for a frame. -/
theorem witness_PassEvaluated_wakes :
    let s : State := waiting .noFrame { draining 5120 0 with items := { Items.reset with autoRelease := 1 } }
    let d : Drain := { Drain.reset with cursor := 5120, timer := some { start := 0, reported := false } }
    s.resetLow = false ∧ (s.frame 0).state = .draining ∧ (s.frame 0).drain = some d ∧ d.broken = false ∧
      (s.frame 0).imageFault = false ∧ d.sums = (s.frame 0).sums ∧ (s.frame 0).imageLength = some 5120 ∧
      s.items.autoRelease ≠ 0 ∧ s.waitList = [0] := by decide +kernel

theorem witness_FillBurstAnswered :
    burstOut.resetLow = false ∧
      burstOut.findOutstanding 0 = some { btag := 0, origin := .burst .packHead 0 0
                                          req := { addr := frameAt 0 0, body := .write [some 5, none, some 7] } } := by
  decide +kernel

/-- A DIRECTORY job; a pack job; and jobs of a RECEIVING, a VOIDING and a WAITING lane. -/
theorem witness_FillJobCompletes :
    let writing := modFrame 0 (fun fr => { fr with state := .sealing, stage := .writing }) running
    let done (s : State) (l : Option LaneNo) (k : JobKind) : Prop :=
      s.resetLow = false ∧ s.fill.progress = some { next := 4160, issued := 1, answered := 1 } ∧
      s.fill.queue = [{ kind := k, frame := 0, lane := l, start := 4096, stop := 4160, source := .zeros }]
    (done (jobDone .directory none writing) none .directory ∧
      ((jobDone .directory none writing).frame 0).state = .sealing ∧
      ((jobDone .directory none writing).frame 0).stage = .writing) ∧
    done (jobDone .packHead none running) none .packHead ∧
    (done (jobDone .fileHead (some 0) receiving) (some 0) .fileHead ∧ (receiving.lane 0).state = .receiving) ∧
    (done (jobDone .fileHead (some 0) voiding) (some 0) .fileHead ∧ (voiding.lane 0).state = .voiding) ∧
    (done (jobDone .pad (some 0) (waiting .jobLimit running)) (some 0) .pad ∧
      ((waiting .jobLimit running).lane 0).state = .waiting ∧
      ((waiting .jobLimit running).lane 0).held.isSome = true) := by decide +kernel

/-- A job of a WAITING lane completes while two more of its jobs stand in the queue. -/
theorem witness_FillJobCompletes_holds :
    let s := waiting .jobLimit { running with fill := {
      queue := [fileHeadJob 0 0 0 4096, padJob 0 0 entry16, fileHeadJob 0 0 1 4608]
      progress := some { next := 4160, issued := 1, answered := 1 } } }
    s.resetLow = false ∧ (fileHeadJob 0 0 0 4096).stop ≤ 4160 ∧ (fileHeadJob 0 0 0 4096).kind ≠ .directory ∧
      (s.lane 0).state = .waiting ∧ ((s.lane 0).held.any fun h => h.reason == .jobLimit) = true ∧
      gives (exec (.sealReady 0) { s with fill := {
          queue := [padJob 0 0 entry16, fileHeadJob 0 0 1 4608]
          progress := some { next := 4176, issued := 0, answered := 0 } } }) (fun v => 2 < v.laneJobs 0 + 1) = true := by
  decide +kernel

theorem witness_SealReady :
    gathering.resetLow = false ∧ (gathering.frame 0).stage = .gathering ∧
      (∀ en ∈ (gathering.frame 0).entries, en.state ≠ .placed ∧ en.state ≠ .voiding) ∧
      (∀ j ∈ gathering.fill.queue, j.frame ≠ 0) ∧ ¬ (running.frame 0).stage = .gathering := by decide +kernel

theorem witness_TickAdvances : receiving.resetLow = false ∧ (receiving.lane 0).timer.isSome = true := by decide +kernel

theorem witness_FrameExpiries :
    let aged := modFrame 0 (fun fr => { fr with ageReported := true }) receiving
    let x : Timer := { start := 0, reported := true }
    let d : Drain := { Drain.reset with cursor := 128, outstanding := 1, timer := some x }
    let slow := modFrame 0 (fun fr => { fr with drain := some d }) (draining 128 1)
    (aged.resetLow = false ∧ (aged.frame 0).ageReported = true ∧ (aged.frame 0).state = .opened ∧
      (aged.frame 0).cls = some 0) ∧
    ((slow.frame 0).state = .draining ∧ (slow.frame 0).drain = some d ∧ d.timer = some x ∧ x.reported = true) := by
  decide +kernel

theorem witness_LaneExpiries :
    let x : Timer := { start := 0, reported := true }
    let late := modLane 0 (fun ln => { ln with timer := some x }) receiving
    let h : Held := { ann := ann 16, reason := .noFrame, timer := x, slot := 0 }
    let held := modLane 0 (fun ln => { ln with held := some h }) (waiting .noFrame running)
    (late.resetLow = false ∧ (late.lane 0).state = .receiving ∧ (late.lane 0).timer = some x ∧ x.reported = true ∧
      (late.lane 0).file = some (0, 0) ∧ (late.lane 0).lastWrite = none) ∧
    (held.resetLow = false ∧ (held.lane 0).held = some h ∧ h.timer.reported = true ∧
      (held.findRecord .write h.slot).isSome = true) := by decide +kernel

theorem witness_StopAndResetEnd :
    let stopping : State := { running with run := { running.run with global := .stopping, running := some .stop } }
    (stopping.resetLow = false ∧ stopping.run.global = .stopping ∧
      (∀ l, (stopping.lane l).state ≠ .waiting ∧ (stopping.lane l).state ≠ .receiving ∧ (stopping.lane l).state ≠ .voiding) ∧
      (∀ f, (stopping.frame f).state ≠ .opened ∧ (stopping.frame f).state ≠ .sealing) ∧ stopping.fill.queue = [] ∧
      stopping.run.running = some .stop) ∧
    (let s : State := { State.reset with run := { State.reset.run with running := some .resetCore } }
     s.run.running = some .resetCore ∧ (∀ r ∈ s.port.writes ++ s.port.reads, r.preReset = false) ∧
      ∀ o ∈ s.port.outstanding, o.origin ≠ .dropped) := by decide +kernel

/-- A frame of 63 bits, a bad CRC, a good frame, an op of 4, an ACT of FLUSH_CLASS 4, and a core reset in progress. -/
theorem witness_LinkFramesAnswered :
    running.resetLow = false ∧ running.link.receiver = [] ∧ running.link.sending = none ∧
      (List.replicate 63 true).length ≠ 64 ∧
      (let bytes := bytesOfBits (bitsOfBytes [1, 3, 0, 0, 0, 1, 0, 0xA4])
       some (crc8 (bytes.take 7)) ≠ bytes[7]?) ∧
      (let bits := bitsOfBytes [1, 3, 0, 0, 0, 0, 0, 0xA4]
       bits.length = 64 ∧ some (crc8 ((bytesOfBits bits).take 7)) = (bytesOfBits bits)[7]?) ∧
      readAllowed 0x0A 5 = false ∧ writeAllowed 0x03 = false ∧ actAllowed 0x45 4 = false ∧ actAllowed 0x49 0 = false ∧
      ({ State.reset with run := { State.reset.run with running := some .resetCore } } : State).run.running =
        some .resetCore := by decide +kernel

/-- The last index of several ranges, and one above. -/
theorem witness_StatusItemsRead :
    running.resetLow = false ∧ readAllowed 0x36 255 = true ∧ readActs 0x36 255 = false ∧ readAllowed 0x09 71 = true ∧
      readAllowed 0x09 72 = false ∧ readAllowed 0x0D 95 = true ∧ readAllowed 0x0A 4 = true ∧ readActs 0x0A 4 = false ∧
      readAllowed 0x0F 24 = true ∧ readAllowed 0x0F 25 = false ∧ readAllowed 0x02 3 = true ∧ readAllowed 0x0C 16 = true ∧
      receiving.entry? receiving.sel.frame receiving.sel.entry = some entry16 ∧
      (receiving.frame receiving.sel.frame).state ≠ .free ∧ (0x0F : Byte).toNat = 15 + 0 := by decide +kernel

theorem witness_ItemWrites :
    running.resetLow = false ∧ running.run.global ≠ .config ∧ State.reset.run.global = .config ∧
      ConfigItem.packSerialBaseHi.code.toNat < 0x30 ∧ 0x30 ≤ ConfigItem.sealThreshold.code.toNat := by decide +kernel

theorem witness_TimerLimitWrites : receiving.resetLow = false := rfl

theorem witness_ReadsWithAnEffect :
    running.resetLow = false ∧ sealed0.sealQ = 0 :: [] ∧ running.sealQ = [] := by decide +kernel

theorem witness_StartAndEnterConfig :
    let st (g : GlobalState) (a : Option Action) : State :=
      { State.reset with run := { State.reset.run with global := g, running := a } }
    let bad : State := { State.reset with items := { Items.reset with frameBaseLo := 0, frameBaseHi := 1 } }
    (st .stopping (some .stop)).run.running = some .stop ∧
      (State.reset.resetLow = false ∧ State.reset.run.running = none ∧ State.reset.run.global = .config ∧
        (apertureBase State.reset).toNat % (16 * frameSize State.reset) = 0 ∧
        (frameBase State.reset).toNat % frameSize State.reset = 0 ∧
        16 * frameSize State.reset ≤ (frameBase State.reset - apertureBase State.reset).toNat ∧
        frameCount State.reset * frameSize State.reset ≤ (apertureBase State.reset - frameBase State.reset).toNat) ∧
      ¬ 16 * frameSize bad ≤ (frameBase bad - apertureBase bad).toNat ∧
      ((st .stopped none).run.global = .stopped ∧ ∀ f, ((st .stopped none).frame f).state = .free) ∧
      (sealed0.frame 0).state ≠ .free ∧ running.run.running = none := by decide +kernel

/-- RUNNING with an OPEN frame, a RECEIVING lane, and lane 1 waiting for a frame. -/
def busy : State :=
  { modLane 1 (fun ln => { ln with
      state := .waiting
      held := some { ann := ann 16, reason := .noFrame, timer := { start := 0, reported := false }, slot := 0 } })
      (addRecord .write { slot := 0, tag := 7, cls := .aperture 1, origin := .heldAnnounce 1, stage := .held, beats := 8
                          preReset := false } receiving) with waitList := [1] }

theorem witness_StopBegins :
    busy.resetLow = false ∧ LanesOk busy ∧ ClassTableOk busy ∧ busy.run.running = none ∧ busy.run.global = .running ∧
      (busy.frame 0).state = .opened ∧ (busy.lane 1).state = .waiting ∧ (busy.lane 2).state = .idle ∧
      (let t : State := { busy with run := { busy.run with global := .stopping, running := some .stop } }
       t.run.running = some .stop ∧ t.run.global = .stopping) ∧
      (let t : State := { busy with run := { busy.run with global := .stopping, running := some .halt } }
       t.run.running = some .halt) ∧ State.reset.run.running = none ∧ State.reset.run.global = .config := by
  refine ⟨by decide +kernel, ⟨?_, by decide +kernel, ?_⟩, by unfold ClassTableOk; decide +kernel, by decide +kernel⟩
  · intro l
    by_cases h0 : l = 0
    · subst h0; refine ⟨by decide +kernel, by decide +kernel, by decide +kernel⟩
    · by_cases h1 : l = 1
      · subst h1; exact ⟨⟨_, rfl, by decide⟩, ⟨by decide +kernel, by decide +kernel, by decide +kernel, by decide +kernel⟩,
          by decide +kernel⟩
      · have e : ∀ k : LaneNo, k ≠ 0 → k ≠ 1 → busy.lane k = Lane.reset := by decide +kernel
        rw [e l h0 h1]
        exact ⟨rfl, ⟨rfl, rfl, rfl, rfl⟩, rfl⟩
  · have e : ∀ k : LaneNo, k ∈ busy.waitList ↔ ((busy.lane k).held.any fun h => h.reason == .noFrame) = true := by
      decide +kernel
    intro l
    rw [e l]
    cases (busy.lane l).held <;> simp

theorem witness_ResetCore :
    TakesFrameAction (waiting .noFrame receiving) ∧ NumbersOk (waiting .noFrame receiving) ∧
      (∀ r ∈ (waiting .noFrame receiving).port.writes, r.stage = .held) := by
  refine ⟨takesAction (by decide +kernel), by unfold NumbersOk; decide +kernel, by decide +kernel⟩

theorem witness_FlushAndRedrain :
    (TakesFrameAction receiving ∧ (0 : Byte).toNat = (0 : ClassNo).val ∧ receiving.classFrame 0 = some 0 ∧
      (receiving.frame 0).state = .opened ∧ (receiving.frame 0).cls = some 0) ∧
    ((3 : Byte).toNat = (3 : ClassNo).val ∧ receiving.classFrame 3 = none) ∧ 3 < (4 : Byte).toNat ∧
    ((0 : Byte).toNat = (0 : FrameNo).val ∧ (0 : FrameNo).val < frameCount (frame0 .held running) ∧
      ((frame0 .held running).frame 0).state = .held) ∧
    frameCount running ≤ (8 : Byte).toNat ∧ (running.frame 7).state ≠ .held :=
  ⟨⟨takesAction (by decide +kernel), by decide +kernel⟩, by decide +kernel⟩

theorem witness_FramesFreed :
    TakesFrameAction (frame0 .drained running) ∧ (frame0 .drained running).waitList = [] ∧
      (0 : FrameNo).val < frameCount (frame0 .drained running) ∧ ((frame0 .drained running).frame 0).state = .drained ∧
      (sealed0.frame 0).state = .sealed ∧ frameCount running ≤ (8 : Byte).toNat ∧ (running.frame 7).state ≠ .drained ∧
      ((running.frame 7).state ≠ .sealed ∧ (running.frame 7).state ≠ .held) :=
  ⟨takesAction (by decide +kernel), by decide +kernel⟩

/-- Frame 0 DRAINED, and lane 0 alone on the wait list, with an announce of 16 bytes or of 0 bytes. -/
theorem witness_FreedFrameWakesALane :
    let h (len : Nat) : Held := { ann := ann len, reason := .noFrame, timer := { start := 0, reported := false }, slot := 0 }
    let s (len : Nat) := modLane 0 (fun ln => { ln with held := some (h len) }) (waiting .noFrame (frame0 .drained running))
    let ok (len : Nat) : Prop := (0 : FrameNo).val < frameCount (s len) ∧ ((s len).frame 0).state = .drained ∧
      (∀ g : FrameNo, g.val < (0 : FrameNo).val → ((s len).frame g).state ≠ .free) ∧ (s len).waitList = 0 :: [] ∧
      ((s len).lane 0).held = some (h len) ∧ (h len).reason = .noFrame ∧
      (s len).laneJobs 0 + (if (h len).ann.len = 0 then 2 else 1) ≤ 2 ∧
      (s len).classFrame (h len).ann.cls = none ∧ ((s len).findRecord .write (h len).slot).isSome = true
    TakesFrameAction (s 16) ∧ TakesFrameAction (s 0) ∧ ok 16 ∧ ok 0 :=
  ⟨takesAction (by decide +kernel), takesAction (by decide +kernel), by decide +kernel⟩

/-- A SEALED frame, and a DRAINED one, while lane 0 waits for a frame; a visit that passes the lane over, and one that finds the
OPEN frame of its class fit. -/
theorem witness_WakePass :
    let w := waiting .noFrame sealed0
    let o := waiting .noFrame (open0 [] 4096 running)
    (TakesFrameAction w ∧ (w.frame 0).state = .sealed ∧ w.waitList = [0]) ∧
      (let s := waiting .noFrame (allHeld running)
       NoneFree s ∧ s.classFrame 0 = none ∧ ((s.lane 0).held.any fun h => h.reason == .noFrame && h.ann.cls == 0) = true) ∧
      (o.classFrame 0 = some 0 ∧ (o.frame 0).state = .opened ∧ (o.frame 0).cls = some 0 ∧ Fits o 0 16 ∧ o.laneJobs 0 ≤ 1 ∧
        (o.findRecord .write 0).isSome = true) := by
  unfold NoneFree Fits
  exact ⟨⟨takesAction (by decide +kernel), by decide +kernel⟩, by decide +kernel⟩

theorem witness_ResetPin :
    Instr.tickAdvance.wf = true ∧ Instr.tickAdvance ≠ .resetAssert ∧ Instr.tickAdvance ≠ .hardReset ∧
      ({ running with resetLow := true } : State).resetLow = true := by decide +kernel

theorem witness_LinkFramesDecode :
    linkRequestOf (.flushClass 3) = some { op := 3, item := 0x45, index := 3, data := 0 } ∧
      linkRequestOf (.timerLimitWrite .ageLimit 0 86400000) = some { op := 2, item := 0x31, index := 0, data := 86400000 } := by
  decide +kernel

/-- The state after reset, and one with a seal queue. -/
theorem witness_SealQueueKept :
    SealQueueOk { sealed0 with pending := [.discard 0] } ∧
      gives (step { sealed0 with pending := [.discard 0] }) (fun t => t.sealQ == []) = true := by
  unfold SealQueueOk; decide +kernel

theorem witness_LanesKept :
    LanesOk { busy with pending := [.stop 0] } ∧
      gives (step { busy with pending := [.stop 0] }) (fun t => t.waitList.isEmpty) = true :=
  ⟨witness_StopBegins.2.1, by decide +kernel⟩

theorem witness_SumsKept :
    SumsOk { lastWriteOut with pending := [.bodyWriteOkay 0] } ∧
      gives (step { lastWriteOut with pending := [.bodyWriteOkay 0] }) (fun t => (t.lane 0).state == .idle) = true := by
  refine ⟨fun f => ?_, by decide +kernel⟩
  have e : ∀ k : FrameNo, k ≠ 0 → lastWriteOut.frame k = Frame.free := by decide +kernel
  by_cases h : f = 0
  · subst h
    exact ⟨by unfold TwoSum.inRange; decide +kernel, fun d hd => (nomatch hd), by unfold TwoSum.inRange; decide +kernel⟩
  · have : ({ lastWriteOut with pending := [.bodyWriteOkay 0] } : State).frame f = Frame.free := e f h
    rw [this]
    exact ⟨by unfold TwoSum.inRange; decide, fun d hd => (nomatch hd), fun en hen => (nomatch hen)⟩

theorem witness_ClassTableKept :
    ClassTableOk { receiving with pending := [.flushClass 0] } ∧
      gives (step { receiving with pending := [.flushClass 0] }) (fun t => t.classFrame 0 == none) = true := by
  unfold ClassTableOk; decide +kernel

theorem witness_NumbersKept :
    (NumbersOk { burstOut with pending := [.arbiterGrant] } ∧ PlacesOk { burstOut with pending := [.arbiterGrant] } ∧
      gives (step { burstOut with pending := [.arbiterGrant] }) (fun t => t.port.outstanding.map (·.btag) == [0, 1]) = true) ∧
    (RunOk { running with pending := [.stop 0] } ∧
      gives (step { running with pending := [.stop 0] }) (fun t => t.run.global == .stopped) = true) := by
  refine ⟨⟨?_, ?_, ?_⟩, ?_, ?_⟩
  · unfold NumbersOk; decide +kernel
  · unfold PlacesOk; decide +kernel
  · decide +kernel
  · exact (by decide +kernel : running.run.global ≠ .stopping)
  · decide +kernel

end Sys2Proof.Tests
end

section
/-! PROOFS. Requests a lane takes at once, and the fields of the records the part composes: the settled statements
ControlAreaWriteRefused (R21) and StatusReadAnswered (R37, R38, R197). -/

namespace Sys2Proof.Machine

variable (s : State)

/-! ## Requests that a lane takes -/

/-- The model's two names of an answer given agree. -/
theorem giveAnswer_eq (st : Stream) (tag : Nat) (code : RespCode) (data : List Byte) :
    giveAnswer st tag code data s = answering st tag code data s := rfl

/-- A lane acts on the write it takes once that write has left the fabric (R3, R20). -/
theorem laneWrite_taken {s : State} {src : WriteSource} {l : LaneNo} {off : Nat} {w : WriteReq} {kind : LaneWriteKind}
    (act : LaneNo → Nat → WriteReq → State → State)
    (h : LaneTakesWrite s src l off w) (hkind : laneWriteKind off w.bytes = kind) :
    laneWrite kind src act s = act l off w (afterLeaving src s) := by
  obtain ⟨-, -, hsrc, hhead, hroute, hheld, hstate, hroom⟩ := h
  have hwrite : s.sourceWrite src = some w := (sourceWrite_eq s src).trans hsrc
  have htakes : laneTakes s l = true := by
    simp [laneTakes, State.hasRoom, State.records, hheld, hstate, hroom]
  simp [laneWrite, hwrite, hroute, hkind, htakes, (headOf_iff s l src).2 hhead, leaveFabric_eq]

/-- A lane acts on the read it takes (R3, R23). -/
theorem laneRead_taken {s : State} {r : ReadReq} {l : LaneNo} {off : Nat} {kind : LaneReadKind}
    (act : LaneNo → Nat → State → State)
    (h : LaneTakesRead s r l off) (hkind : laneReadKind off (8 * r.beats) = kind) :
    laneRead kind r act s = act l off s := by
  obtain ⟨-, -, hroute, hroom⟩ := h
  simp [laneRead, State.hasRoom, State.records, hroute, hkind, hroom]

/-- A read whose span ends within the control area is a status read (R23). -/
theorem laneReadKind_status {off n : Nat} (h : off + n ≤ 64) : laneReadKind off n = .status := if_pos h

/-- The meaning of CONTROL_AREA_WRITE when the lane takes the write: it is refused and counted (R21). -/
theorem exec_controlAreaWrite_taken {s : State} {src : WriteSource} {l : LaneNo} {off : Nat} {w : WriteReq}
    (h : LaneTakesWrite s src l off w) (hkind : laneWriteKind off w.bytes = .controlArea) :
    exec (.controlAreaWrite src) s = .next (refuseWrite l w.tag (afterLeaving src s)) := by
  have ⟨hlive, hwf, _⟩ := h
  calc exec (.controlAreaWrite src) s
      = checked src.wf s (laneWrite .controlArea src fun l _ w => refuseWrite l w.tag) := rfl
    _ = .next (laneWrite .controlArea src (fun l _ w => refuseWrite l w.tag) s) := checked_next s hlive hwf
    _ = .next (refuseWrite l w.tag (afterLeaving src s)) := by rw [laneWrite_taken _ h hkind]

/-- The meaning of STATUS_READ when the lane takes the read (R37, R38). -/
theorem exec_statusRead_taken {s : State} {r : ReadReq} {l : LaneNo} {off : Nat}
    (h : LaneTakesRead s r l off) (hspan : off + 8 * r.beats ≤ 64) :
    exec (.statusRead r) s = .next (takeStatusRead r l off s) := by
  have ⟨hlive, hwf, _⟩ := h
  calc exec (.statusRead r) s
      = checked r.wf s (laneRead .status r (takeStatusRead r)) := rfl
    _ = .next (laneRead .status r (takeStatusRead r) s) := checked_next s hlive hwf
    _ = .next (takeStatusRead r l off s) := by rw [laneRead_taken _ h (laneReadKind_status hspan)]

/-- Settles O9: the lane takes the write and refuses it; `refuseWrite` touches the answers and one counter. -/
theorem controlAreaWriteRefused : Obligations.ControlAreaWriteRefused := by
  intro s src l off w htakes hkind
  rw [exec_controlAreaWrite_taken htakes hkind, refuseWrite, giveAnswer_eq]

/-! ## Little-endian fields of composed records (00_scope.md, Byte order) -/

@[simp] theorem leBytes_length (n v : Nat) : (leBytes n v).length = n := by
  induction n generalizing v with
  | zero => rfl
  | succ n ih => simp [leBytes, ih]

@[simp] theorem zeroBytes_length (n : Nat) : (zeroBytes n).length = n := List.length_replicate

/-- Reading back a field of `n` bytes gives its value modulo `256 ^ n`. -/
@[simp] theorem leValue_leBytes (n v : Nat) : leValue (leBytes n v) = v % 256 ^ n := by
  induction n generalizing v with
  | zero => simp [leBytes, leValue, Nat.mod_one]
  | succ n ih =>
    simp only [leBytes, leValue, ih, BitVec.toNat_ofNat, Nat.reducePow]
    rw [Nat.pow_succ', Nat.mod_mul]

@[simp] theorem leValue_zeroBytes (n : Nat) : leValue (zeroBytes n) = 0 := by
  induction n with
  | zero => rfl
  | succ n ih => simpa [zeroBytes, List.replicate_succ, leValue] using ih

/-- A field that ends within the first part of a record is that part's. -/
@[simp] theorem leField_append_left {o n : Nat} {xs : List Byte} (ys : List Byte) (h : o + n ≤ xs.length) :
    leField o n (xs ++ ys) = leField o n xs := by
  have hdrop : n ≤ (xs.drop o).length := by rw [List.length_drop]; omega
  unfold leField
  rw [List.drop_append_of_le_length (by omega), List.take_append_of_le_length hdrop]

/-- A field that begins past the first part of a record lies in the rest. -/
@[simp] theorem leField_append_right {o n : Nat} {xs : List Byte} (ys : List Byte) (h : xs.length ≤ o) :
    leField o n (xs ++ ys) = leField (o - xs.length) n ys := by
  unfold leField
  rw [List.drop_append, List.drop_eq_nil_of_le h, List.nil_append]

/-- A field that is all of its part holds the part's value. -/
@[simp] theorem leField_leBytes (n v : Nat) : leField 0 n (leBytes n v) = v % 256 ^ n := by
  unfold leField
  rw [List.drop_zero, List.take_of_length_le (leBytes_length n v).le, leValue_leBytes]

@[simp] theorem leField_zeroBytes (n : Nat) : leField 0 n (zeroBytes n) = 0 := by
  unfold leField
  rw [List.drop_zero, List.take_of_length_le (zeroBytes_length n).le, leValue_zeroBytes]

/-- A word fits its field. -/
theorem toNat_mod_field {w n : Nat} (b : BitVec w) (h : w ≤ 8 * n) : b.toNat % 256 ^ n = b.toNat := by
  have hpow : (256 : Nat) ^ n = 2 ^ (8 * n) := by rw [Nat.pow_mul]
  exact Nat.mod_eq_of_lt (hpow ▸ b.isLt.trans_le (Nat.pow_le_pow_right (by decide) h))

/-! ## The lane status record (R37, R197) -/

@[simp] theorem lanePart_length (l : LaneNo) : (lanePart s l).length = 24 := by simp [lanePart]

@[simp] theorem resultPart_length (rs : List Result) : (resultPart rs).length = 40 := by
  cases rs <;> simp [resultPart]

theorem statusRecord_length (l : LaneNo) : (statusRecord s l).length = 64 := by simp [statusRecord]

/-- A field at offset 24 or above is one of the result part's. -/
theorem leField_statusRecord_result {o n : Nat} (l : LaneNo) (h : 24 ≤ o) :
    leField o n (statusRecord s l) = leField (o - 24) n (resultPart (s.lane l).results) := by
  simp [statusRecord, h]

/-- An empty queue shows NONE and zeros from offset 24 on (R37). -/
theorem statusRecord_noResult {l : LaneNo} (h : (s.lane l).results = []) {i : Nat} (hlo : 24 ≤ i) (hhi : i < 64) :
    (statusRecord s l)[i]? = some 0 := by
  have hlane : (lanePart s l).length ≤ i := by rwa [lanePart_length]
  rw [statusRecord, h, List.getElem?_append_right hlane, lanePart_length]
  exact List.getElem?_replicate_of_lt (by omega)

/-- The offset and length fields show the current file's (R37). -/
theorem shown_file {l : LaneNo} {f : FrameNo} {e : Nat} {en : Entry} (hfile : (s.lane l).file = some (f, e))
    (hentry : s.entry? f e = some en) : shownOffset s l = en.off ∧ shownLength s l = en.len := by
  simp [shownOffset, shownLength, State.currentFile, hfile, hentry]

/-- With no file these fields show 0 and the held announce's length, 0 when none is held (R37). -/
theorem shown_noFile {l : LaneNo} (hfile : (s.lane l).file = none) :
    shownOffset s l = 0 ∧ shownLength s l = ((s.lane l).held.map (·.ann.len)).getD 0 := by
  simp [shownOffset, shownLength, State.currentFile, hfile]

theorem LaneState.code_lt (c : LaneState) : c.code < 256 := by cases c <;> decide

theorem WaitReason.code_lt (c : WaitReason) : c.code < 256 := by cases c <;> decide

theorem ResultCode.code_lt (c : ResultCode) : c.code < 256 := by cases c <;> decide

theorem Result.flags_lt (x : Result) : x.flags < 256 := by
  have hp := x.placed.toNat_le
  have hg := x.sumGiven.toNat_le
  have hs := x.sealAfter.toNat_le
  have hm := x.mismatch.toNat_le
  unfold Result.flags
  omega

/-- The wait reason's byte is 0 when no announce is held (R187). -/
theorem heldCode_lt (o : Option Held) : (o.map (·.reason.code)).getD 0 < 256 := by
  cases o with
  | none => decide
  | some h => exact h.reason.code_lt

/-- Every field of the lane part of the status record (R37, R197). -/
theorem statusRecord_laneFields (l : LaneNo) :
    leField 0 1 (statusRecord s l) = (s.lane l).state.code ∧
      leField 1 1 (statusRecord s l) = ((s.lane l).held.map (·.reason.code)).getD 0 ∧
      leField 2 1 (statusRecord s l) = (s.lane l).extents.length % 256 ∧
      leField 3 1 (statusRecord s l) = (s.lane l).results.length % 256 ∧
      leField 4 1 (statusRecord s l) = (s.lane l).dropped.toNat ∧
      leField 5 3 (statusRecord s l) = 0 ∧
      leField 8 4 (statusRecord s l) = shownOffset s l % 4294967296 ∧
      leField 12 4 (statusRecord s l) = shownLength s l % 4294967296 ∧
      leField 16 4 (statusRecord s l) = ((s.lane l).extents.map fun x => x.stop - x.start).sum % 4294967296 ∧
      leField 20 4 (statusRecord s l) = 0 := by
  refine ⟨?state, ?reason, ?extents, ?results, ?dropped, ?pad, ?offset, ?length, ?received, ?pad'⟩
  case state => simpa [statusRecord, lanePart] using Nat.mod_eq_of_lt (s.lane l).state.code_lt
  case reason => simpa [statusRecord, lanePart] using Nat.mod_eq_of_lt (heldCode_lt (s.lane l).held)
  case dropped => simpa [statusRecord, lanePart] using toNat_mod_field (n := 1) (s.lane l).dropped (by decide)
  all_goals simp [statusRecord, lanePart]

/-- Every field of the result part of the status record, from the oldest result (R35, R197). -/
theorem resultPart_fields (x : Result) (rest : List Result) :
    leField 0 1 (resultPart (x :: rest)) = x.code.code ∧ leField 1 1 (resultPart (x :: rest)) = x.flags ∧
      leField 2 2 (resultPart (x :: rest)) = x.entry % 65536 ∧
      leField 4 6 (resultPart (x :: rest)) = x.serial.toNat ∧ leField 10 2 (resultPart (x :: rest)) = 0 ∧
      leField 12 4 (resultPart (x :: rest)) = x.off % 4294967296 ∧
      leField 16 4 (resultPart (x :: rest)) = x.sumA % 4294967296 ∧
      leField 20 4 (resultPart (x :: rest)) = x.sumB % 4294967296 ∧
      leField 24 8 (resultPart (x :: rest)) = x.wtag.toNat ∧ leField 32 8 (resultPart (x :: rest)) = x.len.toNat := by
  refine ⟨?code, ?flags, ?entry, ?serial, ?pad, ?offset, ?sumA, ?sumB, ?wtag, ?len⟩
  case code => simpa [resultPart] using Nat.mod_eq_of_lt x.code.code_lt
  case flags => simpa [resultPart] using Nat.mod_eq_of_lt x.flags_lt
  case serial => simpa [resultPart] using toNat_mod_field (n := 6) x.serial (by decide)
  case wtag => simpa [resultPart] using toNat_mod_field (n := 8) x.wtag (by decide)
  case len => simpa [resultPart] using toNat_mod_field (n := 8) x.len (by decide)
  all_goals simp [resultPart]

/-- Settles O16: the answer and the pop are the meaning's own; the record's fields are read part by part. -/
theorem statusReadAnswered : Obligations.StatusReadAnswered := by
  refine ⟨fun s r l off htakes hspan => ?_, fun s l => ?_⟩
  · rw [exec_statusRead_taken htakes hspan, takeStatusRead, giveAnswer_eq]
  obtain ⟨hstate, hreason, hextents, hresults, hdropped, hpad, hoff, hlen, hreceived, hpad'⟩ :=
    statusRecord_laneFields s l
  refine ⟨statusRecord_length s l, hstate.trans ?_, hreason.trans ?_, hextents, hresults, hdropped, hpad,
    fun f e en hfile hentry => ?_, fun hfile => ?_, hreceived, hpad', fun hnone i => statusRecord_noResult s hnone,
    fun x rest hqueue => ?_⟩
  · cases (s.lane l).state <;> rfl
  · cases (s.lane l).held with
    | none => rfl
    | some h => cases h with | mk _ reason _ _ => cases reason <;> rfl
  · obtain ⟨eoff, elen⟩ := shown_file s hfile hentry
    exact ⟨eoff ▸ hoff, elen ▸ hlen⟩
  · obtain ⟨eoff, elen⟩ := shown_noFile s hfile
    refine ⟨hoff.trans (by rw [eoff]), hlen.trans ?_⟩
    rw [elen]
    cases (s.lane l).held <;> rfl
  · obtain ⟨hcode, hflags, hentry, hserial, hpad, hoff, hsumA, hsumB, hwtag, hlen⟩ := resultPart_fields x rest
    simp only [leField_statusRecord_result, hqueue, Nat.reduceLeDiff]
    refine ⟨hcode.trans ?_, hflags, hentry, hserial, hpad, hoff, hsumA, hsumB, hwtag, hlen⟩
    cases x.code <;> rfl

end Sys2Proof.Machine
end

section
/-! PROOFS. What a buffer answer to a fabric record does, and how a step that may end a void compares with VOID_END: the
settled statement BodyWriteFaultVoids (R71, R77). -/

namespace Sys2Proof.Machine

variable (s : State)

/-! ## Buffer answers to fabric records (R2, R9, R13) -/

@[simp] theorem lane_modEntry (f : FrameNo) (e : Nat) (g : Entry → Entry) (l : LaneNo) :
    (modEntry f e g s).lane l = s.lane l := rfl

@[simp] theorem lane_settling (btag : Nat) (st : Stream) (r : OpenReq) (code : RespCode) (data : List Byte)
    (l : LaneNo) : (settling btag st r code data s).lane l = s.lane l := rfl

/-- A buffer answer that belongs to a record is handed to the origin of its request. -/
theorem answeredRecord_answers {s : State} {btag : Nat} {st : Stream} {r : OpenReq} {data : List Byte}
    (h : Answers s btag st r data) {given : Option (List Byte)} (hgiven : ∀ d ∈ given, d = data) :
    ∃ o, s.findOutstanding btag = some o ∧ ∀ k, answeredRecord btag given s k = .next (k st r o s) := by
  obtain ⟨o, hlive, hout, horigin, hrecord, -, hlength⟩ := h
  have hdata : (given.all fun d => d.length == o.req.dataBytes) = true := by
    cases given with
    | none => rfl
    | some d => simp [hgiven d rfl, hlength]
  exact ⟨o, hout, fun k => by simp [answeredRecord, answered, hlive, hout, horigin, hrecord, hdata]⟩

/-- A record answered once the port has forgotten its buffer request is a record settled (R2, R9). -/
theorem answerRecord_dropOutstanding {s : State} {st : Stream} {r : OpenReq} (h : s.findRecord st r.slot = some r)
    (btag : Nat) (code : RespCode) (data : List Byte) :
    answerRecord st r.slot code data (dropOutstanding btag s) = settling btag st r code data s := by
  have hkept : (dropOutstanding btag s).findRecord st r.slot = some r := by cases st <;> exact h
  rw [answerRecord_found _ hkept]
  cases st <;> rfl

/-! ## A void that may end (R78, R79, R177) -/

/-- A stop waits for every void (R177). -/
theorem tryStop_of_voiding {s : State} {l : LaneNo} (h : (s.lane l).state = .voiding) : tryStop s = s := by
  have hwaits : stopIsOver s ≠ true := fun hover => by
    simp only [stopIsOver, Bool.and_eq_true, List.all_eq_true] at hover
    obtain ⟨⟨⟨-, hlanes⟩, -⟩, -⟩ := hover
    simpa [h] using hlanes l (laneNos_complete l)
  exact if_neg hwaits

/-- On a VOIDING lane a step that ends the void if it may, then tries the stop, is VOID_END: a void that goes on keeps a
stop from its end. -/
theorem exec_voidEnd_of_voiding {s : State} {l : LaneNo} (hlive : s.resetLow = false)
    (h : (s.lane l).state = .voiding) : exec (.voidEnd l) s = .next (tryStop (tryVoidEnd l s)) := by
  have hexec : exec (.voidEnd l) s = .next (if voidMayEnd s l then tryStop (endVoid l s) else s) :=
    live_next s hlive
  rw [hexec, tryVoidEnd]
  split
  · rfl
  · rw [tryStop_of_voiding h]

/-! ## Where a void begins (R77) -/

/-- The beginning of a void of a file whose last answer is not held back: the entry and the lane go VOIDING. -/
theorem beginVoid_of_noLastWrite {s : State} {l : LaneNo} {f : FrameNo} {e : Nat} (cause : VoidCause)
    (hfile : (s.lane l).file = some (f, e)) (hlast : (s.lane l).lastWrite = none) :
    beginVoid l cause s =
      modLane l (fun ln => { ln with
          state := .voiding, voidCause := some cause, timer := none, held := none, muteMark := false })
        (modEntry f e (fun x => if x.state = .placed then { x with state := .voiding } else x) s) := by
  have hentry : Entry.beginVoid = fun x => if x.state = .placed then { x with state := .voiding } else x := by
    funext x
    simp [Entry.beginVoid]
  have hgive : giveLastAnswer l s = s := by simp [giveLastAnswer, hlast]
  have hvoid : voidEntry l s = modEntry f e Entry.beginVoid s := by simp [voidEntry, hfile]
  rw [beginVoid, hgive, hvoid, hentry]
  apply modLane_congr
  simp [Lane.beginVoid, hlast]

/-! ## A FAULT answer to a body write (R71) -/

/-- The state in which a FAULT answer to a body write of lane `l` has reached the fabric and the lane's count (R71). -/
def bodyFaultAnswered (btag : Nat) (r : OpenReq) (l : LaneNo) : State :=
  modLane l (fun ln => { ln with outstanding := ln.outstanding - 1 }) (settling btag .write r .fault [] s)

/-- The answer and the count leave the rest of the lane as it is. -/
@[simp] theorem bodyFaultAnswered_lane (btag : Nat) (r : OpenReq) (l : LaneNo) :
    (bodyFaultAnswered s btag r l).lane l = { s.lane l with outstanding := (s.lane l).outstanding - 1 } := by
  simp [bodyFaultAnswered]

@[simp] theorem bodyFaultAnswered_resetLow (btag : Nat) (r : OpenReq) (l : LaneNo) :
    (bodyFaultAnswered s btag r l).resetLow = s.resetLow := rfl

/-- The meaning of BODY_WRITE_FAULT for the answer to a body write taken since the last core reset: the answered state adds
to no sum (R71). -/
theorem exec_bodyWriteFault_answers {s : State} {btag : Nat} {r : OpenReq} {i : BodyWriteInfo}
    (h : Answers s btag .write r []) (horigin : r.origin = .bodyWrite i) (hreset : r.preReset = false) :
    exec (.bodyWriteFault btag) s = .next (tryStop (settleBodyFault i.lane (bodyFaultAnswered s btag r i.lane))) := by
  obtain ⟨o, -, hhanded⟩ := answeredRecord_answers h (given := none) (fun d hd => nomatch hd)
  obtain ⟨-, -, -, -, hrecord, -⟩ := h
  have hexec : exec (.bodyWriteFault btag) s = execBodyWriteFault btag s := rfl
  rw [hexec, execBodyWriteFault, hhanded]
  simp only [horigin, hreset, Bool.false_eq_true, if_false, answerRecord_dropOutstanding hrecord, bodyFaultAnswered]

/-- Settles O25: the answered state is VOIDING, or goes VOIDING with cause MEMFAULT; there the step is VOID_END. -/
theorem bodyWriteFaultVoids : Obligations.BodyWriteFaultVoids := by
  intro s btag r i hanswers horigin hreset hlast
  have ⟨_, hlive, _⟩ := hanswers
  have hexec := exec_bodyWriteFault_answers hanswers horigin hreset
  refine ⟨fun hvoiding => ⟨_, hexec, ?voiding⟩, fun f e hreceiving hfile => ⟨_, hexec, ?receiving⟩⟩
  case voiding =>
    have hstate : ((bodyFaultAnswered s btag r i.lane).lane i.lane).state = .voiding := by simpa using hvoiding
    have hsettle : settleBodyFault i.lane (bodyFaultAnswered s btag r i.lane) =
        tryVoidEnd i.lane (bodyFaultAnswered s btag r i.lane) := by simp [settleBodyFault, hvoiding]
    rw [hsettle]
    exact exec_voidEnd_of_voiding hlive hstate
  case receiving =>
    have hsettle : settleBodyFault i.lane (bodyFaultAnswered s btag r i.lane) =
        tryVoidEnd i.lane (beginVoid i.lane .memfault (bodyFaultAnswered s btag r i.lane)) := by
      simp [settleBodyFault, hreceiving]
    have hbegins := beginVoid_of_noLastWrite (s := bodyFaultAnswered s btag r i.lane)
      (l := i.lane) (f := f) (e := e) .memfault
      (by simpa using hfile) (by simpa using hlast)
    rw [hsettle, hbegins]
    exact exec_voidEnd_of_voiding hlive (by simp)

end Sys2Proof.Machine
end

section
/-! PROOFS. The seal unit's examination of a frame: the settled statement SealReady (R125, R126). -/

namespace Sys2Proof.Machine

variable (s : State)

/-! ## Readiness (R125) -/

/-- An entry is pending in the two states that R125 names. -/
theorem Entry.pending_eq_false_iff (en : Entry) : en.pending = false ↔ en.state ≠ .placed ∧ en.state ≠ .voiding := by
  simp [Entry.pending]

/-- A frame's job count is 0 when no job of the queue goes into it (R110). -/
theorem frameJobs_eq_zero_iff (f : FrameNo) : s.frameJobs f = 0 ↔ ∀ j ∈ s.fill.queue, j.frame ≠ f := by
  simp [State.frameJobs, List.countP_eq_zero]

/-- The model's test of readiness decides the three conditions of R125. -/
theorem sealIsReady_iff (f : FrameNo) :
    sealIsReady s f = true ↔ (s.frame f).stage = .gathering ∧
      (∀ en ∈ (s.frame f).entries, en.state ≠ .placed ∧ en.state ≠ .voiding) ∧
      ∀ j ∈ s.fill.queue, j.frame ≠ f := by
  have hentries : (s.frame f).entries.any Entry.pending = false ↔
      ∀ en ∈ (s.frame f).entries, en.state ≠ .placed ∧ en.state ≠ .voiding := by
    simp only [List.any_eq_false, Bool.not_eq_true, Entry.pending_eq_false_iff]
  simp only [sealIsReady, Bool.and_eq_true, Bool.not_eq_true', beq_iff_eq, hentries, frameJobs_eq_zero_iff, and_assoc]

/-! ## The examination (R125, R126) -/

/-- The directory area, written out (R44). -/
theorem dirSize_eq (x : Nat) : dirSize x = (64 * (x + 1) + 511) / 512 * 512 := rfl

/-- A job that joins the queue changes the fill unit alone, and becomes current when the queue was empty (R109). -/
theorem enqueueJob_eq (j : Job) :
    enqueueJob j s = { s with fill := {
      queue := s.fill.queue ++ [j]
      progress := if s.fill.queue = [] then some { next := j.start, issued := 0, answered := 0 }
                  else s.fill.progress } } := by
  simp [enqueueJob, Job.begin]

/-- The meaning of SEAL_READY for a ready frame (R126). -/
theorem exec_sealReady_of_ready {s : State} {f : FrameNo} (hlive : s.resetLow = false)
    (hready : sealIsReady s f = true) : exec (.sealReady f) s = .next (makeReady f s) :=
  calc exec (.sealReady f) s
      = live s (examine f) := rfl
    _ = .next (examine f s) := live_next s hlive
    _ = .next (makeReady f s) := by rw [examine, if_pos hready]

/-- The meaning of SEAL_READY for a frame that is not ready (R125). -/
theorem exec_sealReady_of_not_ready {s : State} {f : FrameNo} (hlive : s.resetLow = false)
    (hready : ¬ sealIsReady s f = true) : exec (.sealReady f) s = .next s :=
  calc exec (.sealReady f) s
      = live s (examine f) := rfl
    _ = .next (examine f s) := live_next s hlive
    _ = .next s := by rw [examine, if_neg hready]

/-- Settles O37: the model's test decides R125's conditions, and a ready frame's job joins the queue (R126). -/
theorem sealReady : Obligations.SealReady := by
  intro s f hlive ready n c il job
  have hiff : sealIsReady s f = true ↔ ready := sealIsReady_iff s f
  refine ⟨fun hnot => exec_sealReady_of_not_ready hlive (mt hiff.1 hnot), fun hready => ?_⟩
  have hlength : (s.frame f).finalLength = il := by rw [Frame.finalLength, dirSize_eq]
  have hjob : directoryJob f (s.frame f) = job := by rw [directoryJob, hlength]
  have hframe : modFrame f (fun fr => { fr with imageLength := some fr.finalLength, stage := .writing }) s =
      modFrame f (fun fr => { fr with imageLength := some il, stage := .writing }) s :=
    modFrame_congr s f (by rw [hlength])
  rw [exec_sealReady_of_ready hlive (hiff.2 hready), makeReady, hjob, hframe, enqueueJob_eq]
  rfl

end Sys2Proof.Machine
end

section
/-! PROOFS. What the answer to a drain read does, and when the pass it belongs to is tested: the settled statement
DrainReadAnswered (R141, R145, R146). -/

namespace Sys2Proof.Machine

variable (s : State)

/-! ## Drain reads answered (R141) -/

@[simp] theorem frame_settling (btag : Nat) (st : Stream) (r : OpenReq) (code : RespCode) (data : List Byte)
    (f : FrameNo) : (settling btag st r code data s).frame f = s.frame f := rfl

/-- The meaning of DRAIN_READ_OKAY for a read taken since the last core reset: the fabric has the buffer's data, and a
counted read of a DRAINING frame is counted (R145). -/
theorem exec_drainReadOkay_answers {s : State} {btag : Nat} {r : OpenReq} {i : DrainReadInfo} {data : List Byte}
    (h : Answers s btag .read r data) (horigin : r.origin = .drainRead i) (hreset : r.preReset = false) :
    exec (.drainReadOkay btag data) s = .next (
      if i.counted && (s.frame i.frame).state == .draining then countOkay i data (settling btag .read r .okay data s)
      else settling btag .read r .okay data s) := by
  obtain ⟨o, -, hhanded⟩ := answeredRecord_answers h (given := some data) (fun d hd => (Option.mem_some.1 hd).symm)
  obtain ⟨-, -, -, -, hrecord, hwf, -⟩ := h
  have hexec : exec (.drainReadOkay btag data) s = execDrainReadOkay btag data s := rfl
  rw [hexec, execDrainReadOkay, withData, if_pos hwf, hhanded]
  simp only [horigin, hreset, Bool.false_eq_true, if_false, answerRecord_dropOutstanding hrecord]

/-- The meaning of DRAIN_READ_FAULT for a read taken since the last core reset: the fabric has zero beats, and a member of
the pass of a DRAINING frame breaks it (R146). -/
theorem exec_drainReadFault_answers {s : State} {btag : Nat} {r : OpenReq} {i : DrainReadInfo} {data : List Byte}
    (h : Answers s btag .read r data) (horigin : r.origin = .drainRead i) (hreset : r.preReset = false) :
    exec (.drainReadFault btag) s = .next (
      if i.member && (s.frame i.frame).state == .draining then
        memberFault i (settling btag .read r .fault (zeroBeats r.beats) s)
      else settling btag .read r .fault (zeroBeats r.beats) s) := by
  obtain ⟨o, -, hhanded⟩ := answeredRecord_answers h (given := none) (fun d hd => nomatch hd)
  obtain ⟨-, -, -, -, hrecord, -⟩ := h
  have hexec : exec (.drainReadFault btag) s = execDrainReadFault btag s := rfl
  rw [hexec, execDrainReadFault, hhanded]
  simp only [horigin, hreset, Bool.false_eq_true, if_false, answerRecord_dropOutstanding hrecord]

/-! ## The drain state of a pass (R139, R148) -/

/-- A change of a drain state that is there, by its outcome. -/
theorem modDrain_of_some {s : State} {f : FrameNo} {d : Drain} (h : (s.frame f).drain = some d) (g : Drain → Drain) :
    modDrain f g s = modFrame f (fun fr => { fr with drain := some (g d) }) s := by
  apply modFrame_congr
  rw [h, Option.map_some]

/-- The meaning of DRAIN_EVALUATION is the test that follows each answer to a counted read (R148). -/
theorem exec_drainEvaluation_live {s : State} {f : FrameNo} (hlive : s.resetLow = false) :
    exec (.drainEvaluation f) s = .next (tryEvaluate f s) :=
  live_next s hlive

/-- A mask over present bytes, byte by byte. -/
theorem maskBytes_map_some (keep : Nat → Bool) (q : Nat) (data : List Byte) :
    maskBytes keep q (data.map some) = data.mapIdx fun j b => if keep (q + j) then some b else none := by
  induction data generalizing q with
  | nil => rfl
  | cons b bs ih => simp [maskBytes, ih, List.mapIdx_cons, Nat.add_assoc, Nat.add_comm 1]

/-- The bytes that a counted read adds: those of its claimed range that lie before the trailer (R145, R86). -/
theorem countedBytes_eq (i : DrainReadInfo) (il : Nat) (data : List Byte) :
    countedBytes i il data = data.mapIdx fun j b =>
      if i.lo ≤ i.off + j ∧ i.off + j < i.hi ∧ i.off + j < il - 64 then some b else none := by
  have htrailer : ∀ q, q + 64 < il ↔ q < il - 64 := fun q => by omega
  simp only [countedBytes, maskBytes_map_some, Bool.and_eq_true, decide_eq_true_eq, and_assoc, htrailer]

/-- A counted OKAY adds its bytes, lowers the outstanding count, and tests the pass (R145). -/
theorem countOkay_eq {s : State} {i : DrainReadInfo} {d : Drain} {il : Nat} (data : List Byte)
    (hdrain : (s.frame i.frame).drain = some d) (hlength : (s.frame i.frame).imageLength = some il) :
    countOkay i data s = tryEvaluate i.frame (modFrame i.frame (fun fr => { fr with drain := some { d with
      outstanding := d.outstanding - 1
      sums := d.sums.addBytes i.off (data.mapIdx fun j b =>
        if i.lo ≤ i.off + j ∧ i.off + j < i.hi ∧ i.off + j < il - 64 then some b else none) } }) s) := by
  have hil : (s.frame i.frame).length = il := by rw [Frame.length, hlength, Option.getD_some]
  rw [countOkay, modDrain_of_some hdrain, hil, countedBytes_eq]

/-- The FAULT of an uncounted member only breaks the pass (R146). -/
theorem memberFault_uncounted {s : State} {i : DrainReadInfo} {d : Drain}
    (hdrain : (s.frame i.frame).drain = some d) (hcounted : i.counted = false) :
    memberFault i s = modFrame i.frame (fun fr => { fr with drain := some { d with broken := true } }) s := by
  simp [memberFault, hcounted, modDrain_of_some hdrain]

/-- The FAULT of a counted member breaks the pass, lowers the outstanding count, and tests the pass (R146). -/
theorem memberFault_counted {s : State} {i : DrainReadInfo} {d : Drain}
    (hdrain : (s.frame i.frame).drain = some d) (hcounted : i.counted = true) :
    memberFault i s = tryEvaluate i.frame (modFrame i.frame (fun fr => { fr with
      drain := some { d with broken := true, outstanding := d.outstanding - 1 } }) s) := by
  simp [memberFault, hcounted, modDrain_of_some hdrain]

/-- Settles O33: the answer settles the record; where the marks and the frame's state let it touch the drain state, the
step ends in the test that DRAIN_EVALUATION makes. -/
theorem drainReadAnswered : Obligations.DrainReadAnswered := by
  intro s btag r i data hanswers horigin hreset okay fault setDrain
  have ⟨_, hlive, _⟩ := hanswers
  have hokay : exec (.drainReadOkay btag data) s =
      .next (if i.counted && (s.frame i.frame).state == .draining then countOkay i data okay else okay) :=
    exec_drainReadOkay_answers hanswers horigin hreset
  have hfault : exec (.drainReadFault btag) s =
      .next (if i.member && (s.frame i.frame).state == .draining then memberFault i fault else fault) :=
    exec_drainReadFault_answers hanswers horigin hreset
  refine ⟨fun hno => ?okayOnly, fun hno => ?faultOnly, fun d il hstate hdrain hlength =>
    ⟨fun hcounted => ⟨_, hokay, ?okayCounted⟩, fun hmember hcounted => ?faultUncounted,
      fun hmember hcounted => ⟨_, hfault, ?faultCounted⟩⟩⟩
  case okayOnly =>
    have htest : ¬ (i.counted && (s.frame i.frame).state == .draining) = true := by
      rcases hno with hcounted | hstate
      · simp [hcounted]
      · simp [hstate]
    rw [hokay, if_neg htest]
  case faultOnly =>
    have htest : ¬ (i.member && (s.frame i.frame).state == .draining) = true := by
      rcases hno with hmember | hstate
      · simp [hmember]
      · simp [hstate]
    rw [hfault, if_neg htest]
  case okayCounted =>
    rw [if_pos (by simp [hcounted, hstate]), countOkay_eq (s := okay) data hdrain hlength]
    exact exec_drainEvaluation_live hlive
  case faultUncounted =>
    rw [hfault, if_pos (by simp [hmember, hstate]), memberFault_uncounted (s := fault) hdrain hcounted]
  case faultCounted =>
    rw [if_pos (by simp [hmember, hstate]), memberFault_counted (s := fault) hdrain hcounted]
    exact exec_drainEvaluation_live hlive

end Sys2Proof.Machine
end

section
/-! PROOFS. How run control takes a frame action and answers with its result: the settled statement FlushAndRedrain (R55,
R155, R173, R188). -/

namespace Sys2Proof.Machine

variable (s : State)

/-! ## Taking a frame action (R172, R173, R188) -/

/-- The actions that name a class or a frame (R188): each finishes at once, and no stop refuses it (R173). -/
def frameActions : List Action := [.flushClass, .release, .discard, .redrain]

/-- The model's two names of a finished action agree. -/
theorem finish_eq (a : Action) (r : ActionResult) : finish a r s = finished a r s := rfl

/-- The model's two names of a link answer agree. -/
theorem linkAnswer_eq (resp : LinkResp) (item index : Byte) (data : Word) :
    linkAnswer resp item index data s = linkAnswering resp item index data s := rfl

/-- Run control takes a frame action while none runs or a stop does (R173). -/
theorem admits_frameAction {s : State} (h : TakesFrameAction s) {a : Action} (ha : a ∈ frameActions) :
    admits s.run.running a = true := by
  have hall : ∀ a ∈ frameActions, admits none a = true ∧ admits (some .stop) a = true ∧ admits (some .halt) a = true := by
    decide
  obtain ⟨hnone, hstop, hhalt⟩ := hall a ha
  obtain ⟨-, hrun | hrun | hrun⟩ := h <;> rw [hrun] <;> assumption

/-- No frame action is the one that runs (R172, R173). -/
theorem running_ne_frameAction {s : State} (h : TakesFrameAction s) {a : Action} (ha : a ∈ frameActions) :
    s.run.running ≠ some a := by
  have hall : ∀ a ∈ frameActions, none ≠ some a ∧ some Action.stop ≠ some a ∧ some Action.halt ≠ some a := by decide
  obtain ⟨hnone, hstop, hhalt⟩ := hall a ha
  obtain ⟨-, hrun | hrun | hrun⟩ := h <;> rw [hrun] <;> assumption

/-- A frame action that finishes is answered with its own result (R188). -/
theorem takeAction_finished {s u : State} (h : TakesFrameAction s) {a : Action} (ha : a ∈ frameActions) (index : Byte)
    {g : State → State} {r : ActionResult} (hg : g s = finish a r u) (hrun : u.run = s.run) :
    takeAction a index g s = linkAnswering .ok a.code index (word r.code) (finished a r u) := by
  have hidle : u.run.running ≠ some a := hrun ▸ running_ne_frameAction h ha
  have hdata : actionData a (finished a r u) = word r.code := by simp [actionData, finished, hidle]
  rw [takeAction, if_pos (admits_frameAction h ha), hg, finish_eq, hdata, linkAnswer_eq]

/-- An index that names a lane, class or frame is read back as it. -/
theorem ofNat_toNat_of_eq {n : Nat} [NeZero n] {index : Byte} {k : Fin n} (h : index.toNat = k.val) :
    Fin.ofNat n index.toNat = k := by
  rw [h]
  exact Fin.ofNat_val_eq_self k

/-! ## Actions on a frame (R42, R188) -/

/-- A frame action acts on the frame it names in an allowed state. -/
theorem framePart_allowed {s : State} {a : Action} {index : Byte} {allowed : FrameState → Bool}
    {g : FrameNo → State → State} {f : FrameNo} (hindex : index.toNat = f.val) (hf : f.val < frameCount s)
    (hallowed : allowed (s.frame f).state = true) : framePart a index allowed g s = finish a .done (g f s) := by
  have hframe := ofNat_toNat_of_eq hindex
  have hcount : index.toNat < frameCount s := hindex ▸ hf
  have hplace : index.toNat < 8 := hindex ▸ f.isLt
  rw [framePart, hframe, if_pos (by simp [hcount, hplace, hallowed])]

/-- A frame action on no frame of the part, or on one in another state, has no effect. -/
theorem framePart_wrongState {s : State} {a : Action} {index : Byte} {allowed : FrameState → Bool}
    {g : FrameNo → State → State}
    (h : frameCount s ≤ index.toNat ∨ ∃ f : FrameNo, index.toNat = f.val ∧ allowed (s.frame f).state = false) :
    framePart a index allowed g s = finish a .wrongState s := by
  rcases h with hcount | ⟨f, hindex, hstate⟩
  · simp [framePart, Nat.not_lt.2 hcount]
  · have hframe := ofNat_toNat_of_eq hindex
    rw [framePart, hframe, if_neg (by simp [hstate])]

/-- REDRAIN does to a frame what an expired drain does (R150, R155). -/
theorem backToSealed_eq (f : FrameNo) :
    backToSealed f s = { modFrame f (fun fr => { fr with
      state := .sealed
      drain := some { cursor := 0, broken := false, outstanding := 0, sums := { a := 0, b := 0 }
                      timer := none } }) s with
      sealQ := s.sealQ ++ [f] } := rfl

/-- The meaning of REDRAIN, by the result of its part (R155). -/
theorem exec_redrain_finished {s u : State} (h : TakesFrameAction s) (index : Byte) {r : ActionResult}
    (hpart : framePart .redrain index (· == .held) backToSealed s = finish .redrain r u) (hrun : u.run = s.run) :
    exec (.redrain index) s = .next (linkAnswering .ok 0x48 index (word r.code) (finished .redrain r u)) := by
  have ⟨hlive, _⟩ := h
  have hexec : exec (.redrain index) s = execRedrain index s := rfl
  rw [hexec, execRedrain, live_next s hlive, takeAction_finished h (by decide) index hpart hrun]
  rfl

/-! ## FLUSH_CLASS (R54, R55) -/

/-- The seal unit's examination leaves run control as it is (R125, R126). -/
@[simp] theorem examine_run (f : FrameNo) : (examine f s).run = s.run := by
  unfold examine
  split <;> rfl

/-- A frame that leaves OPEN leaves run control as it is (R54). -/
@[simp] theorem markSealing_run (f : FrameNo) (cause : SealCause) : (markSealing f cause s).run = s.run := by
  unfold markSealing
  split <;> rfl

@[simp] theorem markSealing_resetLow (f : FrameNo) (cause : SealCause) :
    (markSealing f cause s).resetLow = s.resetLow := by
  unfold markSealing
  split <;> rfl

/-- A bound frame leaves OPEN together with its class's entry (R43, R54). -/
theorem markSealing_of_bound {s : State} {f : FrameNo} {c : ClassNo} (cause : SealCause)
    (h : (s.frame f).cls = some c) :
    markSealing f cause s = setClassFrame c none (modFrame f (fun fr => { fr with
      state := .sealing, sealCause := some cause, sealTick := some s.tick, stage := .gathering
      ageReported := false }) s) := by
  simp [markSealing, h]

/-- The meaning of SEAL_READY is the examination that follows a seal at once (R124, R125). -/
theorem exec_sealReady_live {s : State} {f : FrameNo} (hlive : s.resetLow = false) :
    exec (.sealReady f) s = .next (examine f s) :=
  live_next s hlive

/-- FLUSH_CLASS seals the OPEN frame of its class (R55). -/
theorem flushPart_opened {s : State} {c : ClassNo} {f : FrameNo} (htable : s.classFrame c = some f)
    (hstate : (s.frame f).state = .opened) :
    flushPart c s = finish .flushClass .done (examine f (markSealing f .flush s)) := by
  have hopen : openFrameOf s c = some f := by simp [openFrameOf, htable, hstate]
  rw [flushPart, hopen]
  rfl

/-- FLUSH_CLASS of a class without a frame finds nothing to seal (R55). -/
theorem flushPart_none {s : State} {c : ClassNo} (htable : s.classFrame c = none) :
    flushPart c s = finish .flushClass .nothing s := by
  simp [flushPart, openFrameOf, htable]

/-- The meaning of FLUSH_CLASS for one of the four classes, by the result of its part (R55). -/
theorem exec_flushClass_finished {s u : State} (h : TakesFrameAction s) {index : Byte} {c : ClassNo}
    {r : ActionResult} (hindex : index.toNat = c.val) (hpart : flushPart c s = finish .flushClass r u)
    (hrun : u.run = s.run) :
    exec (.flushClass index) s = .next (linkAnswering .ok 0x45 index (word r.code) (finished .flushClass r u)) := by
  have ⟨hlive, _⟩ := h
  have hknown : ¬ 3 < index.toNat := by omega
  have hexec : exec (.flushClass index) s = execFlushClass index s := rfl
  rw [hexec, execFlushClass, live_next s hlive, if_neg hknown, ofNat_toNat_of_eq hindex,
    takeAction_finished h (by decide) index hpart hrun]
  rfl

/-- The meaning of FLUSH_CLASS for an index that names no class (R188). -/
theorem exec_flushClass_badItem {s : State} (hlive : s.resetLow = false) {index : Byte} (hindex : 3 < index.toNat) :
    exec (.flushClass index) s = .next (linkAnswering .badItem 0x45 index 0 s) := by
  have hexec : exec (.flushClass index) s = execFlushClass index s := rfl
  rw [hexec, execFlushClass, live_next s hlive, if_pos hindex, linkAnswer_eq]
  rfl

/-- Settles O50: each command by the result of its part; the seal of FLUSH_CLASS ends in the examination that SEAL_READY
makes. -/
theorem flushAndRedrain : Obligations.FlushAndRedrain := by
  intro s i htakes
  have ⟨hlive, _⟩ := htakes
  refine ⟨fun c f hindex htable hstate hcls =>
    ⟨examine f (markSealing f .flush s), ?sealed, ?flushed⟩, fun c hindex htable => ?nothing,
    exec_flushClass_badItem hlive, fun f hindex hf hstate => ?redrained, fun hwrong => ?wrongState⟩
  case sealed =>
    rw [← markSealing_of_bound .flush hcls]
    exact exec_sealReady_live (by simpa using hlive)
  case flushed => exact exec_flushClass_finished htakes hindex (flushPart_opened htable hstate) (by simp)
  case nothing => exact exec_flushClass_finished htakes hindex (flushPart_none htable) rfl
  case redrained =>
    rw [← backToSealed_eq]
    exact exec_redrain_finished htakes i (framePart_allowed hindex hf (by simp [hstate])) rfl
  case wrongState =>
    have hnot : frameCount s ≤ i.toNat ∨ ∃ f : FrameNo, i.toNat = f.val ∧ ((s.frame f).state == .held) = false := by
      simpa using hwrong
    exact exec_redrain_finished htakes i (framePart_wrongState hnot) rfl

end Sys2Proof.Machine
end

section
/-! PROOFS. How run control takes START and ENTER_CONFIG in every global state: the settled statement StartAndEnterConfig
(R173, R174, R178). -/

namespace Sys2Proof.Machine

variable (s : State)

/-! ## Taking an action while none runs (R172, R173, R188) -/

/-- While no action runs, an action that finishes and starts none is answered with its own result. -/
theorem takeAction_idle {s u : State} {a : Action} {g : State → State} {r : ActionResult} (index : Byte)
    (hidle : s.run.running = none) (hg : g s = finish a r u) (hrun : u.run.running = none) :
    takeAction a index g s = linkAnswering .ok a.code index (word r.code) (finished a r u) := by
  have hadmits : admits s.run.running a = true := by rw [hidle]; rfl
  have hdata : actionData a (finished a r u) = word r.code := by simp [actionData, finished, hrun]
  rw [takeAction, if_pos hadmits, hg, finish_eq, hdata, linkAnswer_eq]

/-- An action that the running one shuts out is answered REFUSED_BUSY and does nothing else. -/
theorem takeAction_refused {s : State} {a : Action} (index : Byte) (g : State → State)
    (h : admits s.run.running a = false) : takeAction a index g s = linkAnswering .refusedBusy a.code index 0 s := by
  rw [takeAction, if_neg (by simp [h]), linkAnswer_eq]

/-- A stop shuts out START and ENTER_CONFIG (R173). -/
theorem admits_of_stop {s : State} (h : s.run.running = some .stop ∨ s.run.running = some .halt) :
    admits s.run.running .start = false ∧ admits s.run.running .enterConfig = false := by
  rcases h with hstop | hhalt
  · rw [hstop]; exact ⟨rfl, rfl⟩
  · rw [hhalt]; exact ⟨rfl, rfl⟩

/-- The meaning of START while none runs, by the result of its part (R174). -/
theorem exec_start_idle {s u : State} (hlive : s.resetLow = false) (hidle : s.run.running = none) (index : Byte)
    {r : ActionResult} (hpart : startPart s = finish .start r u) (hrun : u.run.running = none) :
    exec (.start index) s = .next (linkAnswering .ok 0x40 index (word r.code) (finished .start r u)) :=
  calc exec (.start index) s
      = .next (takeAction .start index startPart s) := live_next s hlive
    _ = _ := by rw [takeAction_idle index hidle hpart hrun]; rfl

/-- The meaning of ENTER_CONFIG while none runs, by the result of its part (R178). -/
theorem exec_enterConfig_idle {s u : State} (hlive : s.resetLow = false) (hidle : s.run.running = none) (index : Byte)
    {r : ActionResult} (hpart : enterConfigPart s = finish .enterConfig r u) (hrun : u.run.running = none) :
    exec (.enterConfig index) s = .next (linkAnswering .ok 0x43 index (word r.code) (finished .enterConfig r u)) :=
  calc exec (.enterConfig index) s
      = .next (takeAction .enterConfig index enterConfigPart s) := live_next s hlive
    _ = _ := by rw [takeAction_idle index hidle hpart hrun]; rfl

/-- The meaning of START while a stop runs (R173). -/
theorem exec_start_stop {s : State} (hlive : s.resetLow = false)
    (hstop : s.run.running = some .stop ∨ s.run.running = some .halt) (index : Byte) :
    exec (.start index) s = .next (linkAnswering .refusedBusy 0x40 index 0 s) :=
  calc exec (.start index) s
      = .next (takeAction .start index startPart s) := live_next s hlive
    _ = _ := by rw [takeAction_refused index startPart (admits_of_stop hstop).1]; rfl

/-- The meaning of ENTER_CONFIG while a stop runs (R173). -/
theorem exec_enterConfig_stop {s : State} (hlive : s.resetLow = false)
    (hstop : s.run.running = some .stop ∨ s.run.running = some .halt) (index : Byte) :
    exec (.enterConfig index) s = .next (linkAnswering .refusedBusy 0x43 index 0 s) :=
  calc exec (.enterConfig index) s
      = .next (takeAction .enterConfig index enterConfigPart s) := live_next s hlive
    _ = _ := by rw [takeAction_refused index enterConfigPart (admits_of_stop hstop).2]; rfl

/-! ## START by the global state (R174) -/

/-- The model's layout check passes when both bases are aligned and neither region holds the other's base (R174). -/
theorem layoutFails_eq_false_iff :
    layoutFails s = false ↔
      (apertureBase s).toNat % (16 * frameSize s) = 0 ∧ (frameBase s).toNat % frameSize s = 0 ∧
        16 * frameSize s ≤ (frameBase s - apertureBase s).toNat ∧
        frameCount s * frameSize s ≤ (apertureBase s - frameBase s).toNat := by
  simp [layoutFails, inAperture, inFrameRegion, and_assoc]

/-- START in CONFIG with a sound layout (R174). -/
theorem startPart_sound {s : State} (hglobal : s.run.global = .config) (hlayout : layoutFails s = false) :
    startPart s = finish .start .done
      { s with run := { s.run with global := .running }, nextSerial := packSerialBase s } := by
  simp only [startPart, hglobal, hlayout, Bool.false_eq_true, if_false]
  rfl

/-- START in CONFIG with a layout that fails (R174). -/
theorem startPart_layout {s : State} (hglobal : s.run.global = .config) (hlayout : layoutFails s = true) :
    startPart s = finish .start .layout s := by
  simp only [startPart, hglobal, hlayout, if_true]

/-- START in STOPPED (R174). -/
theorem startPart_stopped {s : State} (hglobal : s.run.global = .stopped) :
    startPart s = finish .start .done { s with run := { s.run with global := .running } } := by
  simp only [startPart, hglobal]
  rfl

/-- START in RUNNING and in STOPPING (R173). -/
theorem startPart_wrongState {s : State} (hglobal : s.run.global = .running ∨ s.run.global = .stopping) :
    startPart s = finish .start .wrongState s := by
  rcases hglobal with hrunning | hstopping
  · simp only [startPart, hrunning]
  · simp only [startPart, hstopping]

/-! ## ENTER_CONFIG by the global state and the frame table (R178) -/

/-- The model's test of the frame table looks at every frame. -/
theorem allFree_iff : allFree s = true ↔ ∀ f, (s.frame f).state = .free := by
  simp [allFree, frameNos_complete]

/-- Every lane after the loop that takes the MUTED ones to IDLE. -/
theorem forLanes_unmute_lane (l : LaneNo) :
    (forLanes unmute s).lane l =
      { s.lane l with state := if (s.lane l).state = .muted then .idle else (s.lane l).state } := by
  have hround : unmute = fun l => modLane l fun ln => { ln with state := if ln.state = .muted then .idle else ln.state } := by
    funext l t
    simp only [unmute, beq_iff_eq]
  rw [hround]
  exact forLanes_lane s (fun _ ln => { ln with state := if ln.state = .muted then .idle else ln.state }) l

/-- A round of that loop changes the lanes alone. -/
theorem unmute_frame (l : LaneNo) (t : State) : { unmute l t with lanes := s.lanes } = { t with lanes := s.lanes } := rfl

/-- That loop changes the lanes alone. -/
theorem forLanes_unmute_frame : { forLanes unmute s with lanes := s.lanes } = s := by
  refine forLanes_keeps (P := fun t => { t with lanes := s.lanes } = s) s (fun l t ht => ?_) rfl
  exact (unmute_frame s l t).trans ht

@[simp] theorem forLanes_unmute_run : (forLanes unmute s).run = s.run := by
  have hrun : { forLanes unmute s with lanes := s.lanes }.run = s.run := by rw [forLanes_unmute_frame]
  exact hrun

/-- ENTER_CONFIG in STOPPED with every frame FREE. -/
theorem enterConfigPart_done {s : State} (hglobal : s.run.global = .stopped)
    (hfree : ∀ f, (s.frame f).state = .free) :
    enterConfigPart s =
      finish .enterConfig .done (modRun (fun r => { r with global := .config }) (forLanes unmute s)) := by
  simp only [enterConfigPart, hglobal, (allFree_iff s).2 hfree, if_true]

/-- ENTER_CONFIG in STOPPED with a frame that is not FREE. -/
theorem enterConfigPart_notEmpty {s : State} (hglobal : s.run.global = .stopped)
    (hframe : ∃ f, (s.frame f).state ≠ .free) : enterConfigPart s = finish .enterConfig .notEmpty s := by
  have hnot : ¬ allFree s = true := by simpa [allFree_iff] using hframe
  simp only [enterConfigPart, hglobal, if_neg hnot]

/-- ENTER_CONFIG in any other global state (R173). -/
theorem enterConfigPart_wrongState {s : State} (hglobal : s.run.global ≠ .stopped) :
    enterConfigPart s = finish .enterConfig .wrongState s := by
  unfold enterConfigPart
  split
  case h_1 hstopped => exact absurd hstopped hglobal
  all_goals rfl

/-- Settles O47: a stop shuts both actions out; with none running, each answers with the result of its part. -/
theorem startAndEnterConfig : Obligations.StartAndEnterConfig := by
  intro s i hlive gives sound
  have hsound : layoutFails s = false ↔ sound := layoutFails_eq_false_iff s
  refine ⟨fun hstop => ⟨exec_start_stop hlive hstop i, exec_enterConfig_stop hlive hstop i⟩, fun hidle =>
    ⟨fun hglobal hlayout => ?sound, fun hglobal hlayout => ?layout, fun hglobal => ?restart, fun hglobal => ?startWrong,
      fun hglobal hfree => ?config, fun hglobal hframe => ?notEmpty, fun hglobal => ?configWrong⟩⟩
  case sound => exact exec_start_idle hlive hidle i (startPart_sound hglobal (hsound.2 hlayout)) hidle
  case layout =>
    have hfails : layoutFails s = true := by simpa using mt hsound.1 hlayout
    exact exec_start_idle hlive hidle i (startPart_layout hglobal hfails) hidle
  case restart => exact exec_start_idle hlive hidle i (startPart_stopped hglobal) hidle
  case startWrong => exact exec_start_idle hlive hidle i (startPart_wrongState hglobal) hidle
  case config =>
    exact ⟨modRun (fun r => { r with global := .config }) (forLanes unmute s),
      exec_enterConfig_idle hlive hidle i (enterConfigPart_done hglobal hfree) (by simpa using hidle), by simp,
      fun l => forLanes_unmute_lane s l, congrArg (fun t => { t with run := s.run }) (forLanes_unmute_frame s)⟩
  case notEmpty => exact exec_enterConfig_idle hlive hidle i (enterConfigPart_notEmpty hglobal hframe) hidle
  case configWrong => exact exec_enterConfig_idle hlive hidle i (enterConfigPart_wrongState hglobal) hidle

end Sys2Proof.Machine
end

section
/-! PROOFS. The two READs with an effect of their own, and the SEALRDY line: the settled statement ReadsWithAnEffect (R134,
R136, R190, R191). -/

namespace Sys2Proof.Machine

variable (s : State)

/-! ## ATTN_CAUSE (R190, R191) -/

/-- The sum of the weights, written as R190 lists them. -/
theorem AttnFlags.weight_eq (a : AttnFlags) :
    a.weight = a.laneErr.toNat * 1 + a.imageFault.toNat * 2 + a.linkErr.toNat * 4 + a.frameShort.toNat * 8 +
      a.packHeld.toNat * 16 := by
  rw [AttnFlags.weight]
  omega

/-- FRAME_SHORT's condition is that some lane waits for a frame (R57, R190). -/
theorem frameShortHolds_eq : frameShortHolds s = decide (s.waitList ≠ []) := by
  cases h : s.waitList <;> simp [frameShortHolds, h]

/-- PACK_HELD's condition is that some frame is HELD (R190). -/
theorem packHeldHolds_eq : packHeldHolds s = decide (∃ f, (s.frame f).state = .held) := by
  have hiff : packHeldHolds s = true ↔ ∃ f, (s.frame f).state = .held := by
    simp only [packHeldHolds, Vector.any_toList, Vector.any_eq_true, beq_iff_eq, Fin.exists_iff]
    rfl
  exact Bool.eq_iff_iff.2 (hiff.trans decide_eq_true_iff.symm)

/-- A read of ATTN_CAUSE clears the event flags, and a condition flag whose condition is over (R191). -/
theorem clearOnRead_eq :
    clearOnRead s = { s with attn := {
      laneErr := false, imageFault := false, linkErr := false
      frameShort := s.attn.frameShort && decide (s.waitList ≠ [])
      packHeld := s.attn.packHeld && decide (∃ f, (s.frame f).state = .held) } } := by
  rw [clearOnRead, modAttn, frameShortHolds_eq, packHeldHolds_eq]

/-- The meaning of ATTN_CAUSE_READ (R191). -/
theorem exec_attnCauseRead_eq {s : State} (hlive : s.resetLow = false) (index : Byte) :
    exec (.attnCauseRead index) s = .next (linkAnswering .ok 0x04 index (word s.attn.weight) (clearOnRead s)) :=
  calc exec (.attnCauseRead index) s
      = live s (fun s => linkAnswer .ok 0x04 index (word s.attn.weight) (clearOnRead s)) := rfl
    _ = _ := live_next s hlive

/-! ## SEAL_NEXT (R134) -/

/-- A pop takes the head of the queue into the last-pop record. -/
theorem popSealQ_cons {s : State} {f : FrameNo} {rest : List FrameNo} (hqueue : s.sealQ = f :: rest) :
    popSealQ s = { s with sealQ := rest, lastPop := some (popOf s f) } := by
  simp only [popSealQ, hqueue]

/-- A pop of the empty queue records EMPTY. -/
theorem popSealQ_nil {s : State} (hqueue : s.sealQ = []) : popSealQ s = { s with lastPop := none } := by
  simp only [popSealQ, hqueue]

/-- The meaning of SEAL_NEXT_POP: the answer is word 1 of the new last-pop record (R134). -/
theorem exec_sealNextPop_eq {s : State} (hlive : s.resetLow = false) :
    exec .sealNextPop s =
      .next (linkAnswering .ok 0x0A 0 (readLastPop (popSealQ s).lastPop 1) (popSealQ s)) :=
  calc exec .sealNextPop s
      = live s (fun s => linkAnswer .ok 0x0A 0 (readLastPop (popSealQ s).lastPop 1) (popSealQ s)) := rfl
    _ = _ := live_next s hlive

/-- The meaning of SEAL_NEXT_POP while a frame waits. -/
theorem exec_sealNextPop_cons {s : State} (hlive : s.resetLow = false) {f : FrameNo} {rest : List FrameNo}
    (hqueue : s.sealQ = f :: rest) :
    exec .sealNextPop s = .next (linkAnswering .ok 0x0A 0 (word f.val)
      { s with sealQ := rest, lastPop := some (popOf s f) }) := by
  rw [exec_sealNextPop_eq hlive, popSealQ_cons hqueue]
  rfl

/-- The meaning of SEAL_NEXT_POP while no frame waits. -/
theorem exec_sealNextPop_nil {s : State} (hlive : s.resetLow = false) (hqueue : s.sealQ = []) :
    exec .sealNextPop s = .next (linkAnswering .ok 0x0A 0 0xFFFFFFFF { s with lastPop := none }) := by
  rw [exec_sealNextPop_eq hlive, popSealQ_nil hqueue]
  rfl

/-! ## SEALRDY (R136) -/

/-- While RESET# is high the line shows whether the seal queue is empty. -/
theorem sealRdy_iff {s : State} (hlive : s.resetLow = false) : sealRdy s = true ↔ s.sealQ ≠ [] := by
  simp [sealRdy, hlive]

/-- After a pop the line shows whether another frame waits. -/
theorem sealRdy_sealNextPop {s t : State} (hlive : s.resetLow = false) {f : FrameNo} {rest : List FrameNo}
    (hqueue : s.sealQ = f :: rest) (hstep : exec .sealNextPop s = .next t) : sealRdy t = true ↔ rest ≠ [] := by
  rw [exec_sealNextPop_cons hlive hqueue] at hstep
  cases hstep
  exact sealRdy_iff hlive

/-- Settles O46: each READ by the meaning of its command, and SEALRDY by the queue that the pop leaves. -/
theorem readsWithAnEffect : Obligations.ReadsWithAnEffect := by
  intro s hlive
  refine ⟨?line, fun t f rest hqueue hstep => sealRdy_sealNextPop hlive hqueue hstep, fun index => ?attnCause,
    fun f rest hqueue => exec_sealNextPop_cons hlive hqueue, fun hqueue => exec_sealNextPop_nil hlive hqueue⟩
  case line => exact (sealRdy_iff hlive).trans ⟨List.exists_mem_of_ne_nil _, fun ⟨_, hmem⟩ => List.ne_nil_of_mem hmem⟩
  case attnCause => rw [exec_attnCauseRead_eq hlive, AttnFlags.weight_eq, clearOnRead_eq, word]

end Sys2Proof.Machine
end

section
/-! PROOFS. What every operation of the part keeps, said once for all the invariants together: the seal queue, the stored
sums, the class table, the numbers, the places, run control, and the lanes. An operation that has a lane in flux keeps the
lane invariant of every other lane. -/

namespace Sys2Proof.Machine

open Sys2Proof.Config

variable (s : State)

/-! ## The invariants together -/

/-- The lane holds an announce with reason NO_FRAME (R57). -/
def Lane.holdsNoFrame (ln : Lane) : Prop := ∃ h, ln.held = some h ∧ h.reason = .noFrame

/-- Lane `l` has the shape of its state, and the wait list names it exactly when it waits for a frame (R19, R57). -/
def Settled (l : LaneNo) (s : State) : Prop :=
  (s.lane l).shaped ∧ (l ∈ s.waitList ↔ (s.lane l).holdsNoFrame)

/-- Every lane but the one in flux, if there is one, is settled, and the wait list names no lane twice. -/
def LanesBut (flux : Option LaneNo) (s : State) : Prop :=
  s.waitList.Nodup ∧ ∀ l, flux ≠ some l → Settled l s

/-- With no lane in flux this is the invariant of R19 and R57. -/
theorem lanesBut_none_iff : LanesBut none s ↔ LanesOk s := by
  simp only [LanesBut, Settled, LanesOk, WaitListOk, Lane.holdsNoFrame, forall_and, ne_eq, reduceCtorEq,
    not_false_eq_true, true_imp_iff]
  tauto

/-- A lane's results and extents stand within their places (R36, R66). -/
def Lane.within (ln : Lane) : Prop := ln.results.length ≤ resultCapacity ∧ ln.extents.length ≤ extentCapacity

/-- Each invariant of `s` is one of `t`, but for the shape of the lane in flux. -/
structure Keeps (flux : Option LaneNo) (s t : State) : Prop where
  sealQueue : SealQueueOk s → SealQueueOk t
  sums : SumsOk s → SumsOk t
  classTable : ClassTableOk s → ClassTableOk t
  numbers : NumbersOk s → NumbersOk t
  places : PlacesOk s → PlacesOk t
  run : RunOk s → RunOk t
  lanes : LanesBut flux s → LanesBut flux t

variable {s} {t u : State} {flux : Option LaneNo}

theorem Keeps.refl : Keeps flux s s := ⟨id, id, id, id, id, id, id⟩

theorem Keeps.trans (h : Keeps flux s t) (k : Keeps flux t u) : Keeps flux s u :=
  ⟨k.sealQueue ∘ h.sealQueue, k.sums ∘ h.sums, k.classTable ∘ h.classTable, k.numbers ∘ h.numbers,
    k.places ∘ h.places, k.run ∘ h.run, k.lanes ∘ h.lanes⟩

/-- The same, with the later operation named first. -/
theorem Keeps.after (k : Keeps flux t u) (h : Keeps flux s t) : Keeps flux s u := h.trans k

/-- A conditional operation keeps what each of its branches keeps. -/
theorem Keeps.ite {c : Prop} [Decidable c] (h : c → Keeps flux s t) (k : ¬ c → Keeps flux s u) :
    Keeps flux s (if c then t else u) := by
  split
  · next hc => exact h hc
  · next hc => exact k hc

/-- A lane in flux has come to rest. -/
theorem Keeps.settle {l : LaneNo} (h : Keeps (some l) s t) (hl : LanesOk s → Settled l t) : Keeps none s t where
  sealQueue := h.sealQueue
  sums := h.sums
  classTable := h.classTable
  numbers := h.numbers
  places := h.places
  run := h.run
  lanes hs := by
    obtain ⟨hnodup, hlanes⟩ := h.lanes ⟨hs.1, fun k _ => hs.2 k nofun⟩
    refine ⟨hnodup, fun k _ => ?_⟩
    by_cases hk : k = l
    · exact hk ▸ hl ((lanesBut_none_iff s).1 hs)
    · exact hlanes k fun e => hk (Option.some.inj e).symm

/-! ## The parts of the state that the invariants read -/

/-- The parts that the frame invariants read (R43, R83, R131). -/
def State.packs (s : State) : Vector Frame 8 × Vector (Option FrameNo) 4 × List FrameNo :=
  (s.frames, s.classTable, s.sealQ)

/-- The parts that the other invariants read. -/
def State.others (s : State) : Vector Lane 16 × List LaneNo ×
    (List OpenReq × List OpenReq × List Outstanding × List Nat) × GlobalState × Option Action :=
  (s.lanes, s.waitList, (s.port.writes, s.port.reads, s.port.outstanding, s.port.late), s.run.global, s.run.running)

/-- The frame invariants read no other part. -/
theorem packs_iff (h : t.packs = s.packs) :
    (SealQueueOk t ↔ SealQueueOk s) ∧ (SumsOk t ↔ SumsOk s) ∧ (ClassTableOk t ↔ ClassTableOk s) := by
  simp only [State.packs, Prod.mk.injEq] at h
  obtain ⟨hframes, htable, hqueue⟩ := h
  have hframe : ∀ f, t.frame f = s.frame f := fun f => by rw [State.frame, State.frame, hframes]
  have hclass : ∀ c, t.classFrame c = s.classFrame c := fun c => by rw [State.classFrame, State.classFrame, htable]
  simp only [SealQueueOk, SumsOk, ClassTableOk, hqueue, hframe, hclass, and_self]

/-- The other invariants read no other part. -/
theorem others_iff (h : t.others = s.others) :
    (NumbersOk t ↔ NumbersOk s) ∧ (PlacesOk t ↔ PlacesOk s) ∧ (RunOk t ↔ RunOk s) ∧
      (LanesBut flux t ↔ LanesBut flux s) := by
  simp only [State.others, Prod.mk.injEq] at h
  obtain ⟨hlanes, hwait, ⟨hwrites, hreads, hout, hlate⟩, hglobal, hrunning⟩ := h
  have hlane : ∀ l, t.lane l = s.lane l := fun l => by rw [State.lane, State.lane, hlanes]
  simp only [NumbersOk, PlacesOk, RunOk, LanesBut, Settled, hwrites, hreads, hout, hlate, hlane, hglobal, hrunning,
    hwait, and_self]

/-- An operation on the frames, the class table and the seal queue. -/
theorem Keeps.of_packs (h : t.others = s.others) (hqueue : SealQueueOk s → SealQueueOk t) (hsums : SumsOk s → SumsOk t)
    (htable : ClassTableOk s → ClassTableOk t) : Keeps flux s t :=
  have ⟨hnumbers, hplaces, hrun, hlanes⟩ := others_iff h
  ⟨hqueue, hsums, htable, hnumbers.2, hplaces.2, hrun.2, hlanes.2⟩

/-- An operation on the lanes, the wait list, the ports and run control. -/
theorem Keeps.of_others (h : t.packs = s.packs) (hnumbers : NumbersOk s → NumbersOk t) (hplaces : PlacesOk s → PlacesOk t)
    (hrun : RunOk s → RunOk t) (hlanes : LanesBut flux s → LanesBut flux t) : Keeps flux s t :=
  have ⟨hqueue, hsums, htable⟩ := packs_iff h
  ⟨hqueue.2, hsums.2, htable.2, hnumbers, hplaces, hrun, hlanes⟩

/-- An operation on parts that no invariant reads. -/
theorem Keeps.inert (h : t.packs = s.packs) (h' : t.others = s.others) : Keeps flux s t :=
  have ⟨hqueue, hsums, htable⟩ := packs_iff h
  .of_packs h' hqueue.2 hsums.2 htable.2

/-! ## Sums in range (R83) -/

theorem sumModulus_pos : 0 < sumModulus := by decide

theorem zero_inRange : TwoSum.zero.inRange := ⟨sumModulus_pos, sumModulus_pos⟩

theorem addByte_inRange (x : TwoSum) (q : Nat) (b : Byte) : (x.addByte q b).inRange :=
  ⟨Nat.mod_lt _ sumModulus_pos, Nat.mod_lt _ sumModulus_pos⟩

theorem addBytes_inRange {x : TwoSum} (h : x.inRange) (q : Nat) (bytes : List (Option Byte)) :
    (x.addBytes q bytes).inRange := by
  induction bytes generalizing x q with
  | nil => exact h
  | cons b bs ih =>
    cases b with
    | none => exact ih h (q + 1)
    | some b => exact ih (addByte_inRange x q b) (q + 1)

theorem withdraw_inRange (pack file : TwoSum) (n : Nat) : (pack.withdraw file n).inRange :=
  ⟨Nat.mod_lt _ sumModulus_pos, Nat.mod_lt _ sumModulus_pos⟩

/-- A FREE frame and a frame that opens hold zero sums alone. -/
theorem frame_free_sumsOk : Frame.free.sumsOk := ⟨zero_inRange, nofun, nofun⟩

/-- A drain record that is none or starts afresh (R139). -/
theorem drain_reset_inRange {o : Option Timer} : ∀ d, some { Drain.reset with timer := o } = some d → d.sums.inRange :=
  fun _ hd => Option.some.inj hd ▸ zero_inRange

/-- The class table after one of its entries is set. -/
theorem classFrame_setClassFrame (s : State) (c d : ClassNo) (o : Option FrameNo) :
    (setClassFrame c o s).classFrame d = if d = c then o else s.classFrame d := by
  split
  · next h => exact h ▸ classFrame_set_same s c o
  · next h =>
    have : c.val ≠ d.val := fun e => h (Fin.ext e.symm)
    exact Vector.getElem_set_ne (hi := c.isLt) (hj := d.isLt) this

/-! ## The base operations -/

section base

variable (s) (flux)

theorem keeps_enqueueJob (j : Job) : Keeps flux s (enqueueJob j s) := .inert rfl rfl

theorem keeps_modAttn (g : AttnFlags → AttnFlags) : Keeps flux s (modAttn g s) := .inert rfl rfl

theorem keeps_setUntaken (ws : List WriteReq) : Keeps flux s (setUntaken ws s) := .inert rfl rfl

theorem keeps_giveAnswer (st : Stream) (tag : Nat) (code : RespCode) (data : List Byte) :
    Keeps flux s (giveAnswer st tag code data s) := .inert rfl rfl

theorem keeps_linkAnswer (r : LinkResp) (item index : Byte) (data : Word) :
    Keeps flux s (linkAnswer r item index data s) := .inert rfl rfl

theorem keeps_finish (a : Action) (r : ActionResult) : Keeps flux s (finish a r s) := .inert rfl rfl

variable {s flux}

/-- A change of a frame that leaves its state and its class as they are. -/
theorem keeps_modFrame {f : FrameNo} {g : Frame → Frame} (hstate : (g (s.frame f)).state = (s.frame f).state)
    (hcls : (g (s.frame f)).cls = (s.frame f).cls) (hsums : (s.frame f).sumsOk → (g (s.frame f)).sumsOk) :
    Keeps flux s (modFrame f g s) := by
  have hstates : ∀ k, ((modFrame f g s).frame k).state = (s.frame k).state := fun k => by
    rw [frame_modFrame]; split <;> simp_all
  have hclasses : ∀ k, ((modFrame f g s).frame k).cls = (s.frame k).cls := fun k => by
    rw [frame_modFrame]; split <;> simp_all
  refine .of_packs rfl (fun hs => ⟨hs.1, fun k hk => (hstates k).trans (hs.2 k hk)⟩) (fun hs k => ?_) fun hs c k => ?_
  · rw [frame_modFrame]
    split
    · exact hsums (hs f)
    · exact hs k
  · rw [hstates, hclasses]
    exact hs c k

/-- A change of a frame's state among those that are not OPEN, with the frame's place in the seal queue. -/
theorem keeps_frameState {f : FrameNo} {g : Frame → Frame} {queue : List FrameNo}
    (hbefore : (s.frame f).state ≠ .opened) (hafter : (g (s.frame f)).state ≠ .opened)
    (hsums : (s.frame f).sumsOk → (g (s.frame f)).sumsOk)
    (hqueue : SealQueueOk s → queue.Nodup ∧ ∀ k ∈ queue, if k = f then (g (s.frame f)).state = .sealed else k ∈ s.sealQ) :
    Keeps flux s { modFrame f g s with sealQ := queue } := by
  have hframe : ∀ k, ({ modFrame f g s with sealQ := queue } : State).frame k =
      if k = f then g (s.frame f) else s.frame k := fun k => frame_modFrame s f k g
  refine .of_packs rfl (fun hs => ⟨(hqueue hs).1, fun k hk => ?_⟩) (fun hs k => ?_) fun hs c k => ?_
  · have hplace := (hqueue hs).2 k hk
    rw [hframe]
    split at hplace
    · next hkf => rwa [if_pos hkf]
    · next hkf => rw [if_neg hkf]; exact hs.2 k hplace
  · rw [hframe]
    split
    · exact hsums (hs f)
    · exact hs k
  · rw [hframe]
    refine (hs c k).trans ?_
    split
    · next hkf => simp [hkf, hbefore, hafter]
    · rfl

/-- A frame that is not SEALED does not stand in the seal queue. -/
theorem not_mem_sealQ {f : FrameNo} (h : (s.frame f).state ≠ .sealed) (hs : SealQueueOk s) : f ∉ s.sealQ :=
  fun hmem => h (hs.2 f hmem)

/-- A change among the states that are not OPEN, of a frame that does not stand in the seal queue. -/
theorem keeps_unqueuedState {f : FrameNo} {g : Frame → Frame} (hbefore : (s.frame f).state ≠ .opened)
    (hafter : (g (s.frame f)).state ≠ .opened) (hqueue : SealQueueOk s → f ∉ s.sealQ)
    (hsums : (s.frame f).sumsOk → (g (s.frame f)).sumsOk) : Keeps flux s (modFrame f g s) :=
  keeps_frameState (queue := s.sealQ) hbefore hafter hsums fun hs => ⟨hs.1, fun k hk => by
    rw [if_neg fun e : k = f => hqueue hs (e ▸ hk)]; exact hk⟩

/-- A frame that joins the tail of the seal queue. -/
theorem keeps_queued {f : FrameNo} {g : Frame → Frame}
    (hbefore : (s.frame f).state ≠ .opened ∧ (s.frame f).state ≠ .sealed) (hafter : (g (s.frame f)).state = .sealed)
    (hsums : (s.frame f).sumsOk → (g (s.frame f)).sumsOk) :
    Keeps flux s { modFrame f g s with sealQ := s.sealQ ++ [f] } := by
  refine keeps_frameState hbefore.1 (by simp [hafter]) hsums fun hs => ?_
  have hf : f ∉ s.sealQ := not_mem_sealQ hbefore.2 hs
  refine ⟨List.nodup_append.2 ⟨hs.1, List.nodup_singleton f, fun k hk => ?_⟩, fun k hk => ?_⟩
  · rintro _ hkf rfl
    exact hf (List.mem_singleton.1 hkf ▸ hk)
  · simp only [hafter, List.mem_append, List.mem_singleton] at hk ⊢
    split <;> simp_all

/-- A frame that leaves the seal queue. -/
theorem keeps_unqueued {f : FrameNo} {g : Frame → Frame} (hbefore : (s.frame f).state ≠ .opened)
    (hafter : (g (s.frame f)).state ≠ .opened) (hsums : (s.frame f).sumsOk → (g (s.frame f)).sumsOk) :
    Keeps flux s { modFrame f g s with sealQ := s.sealQ.filter (· != f) } := by
  refine keeps_frameState hbefore hafter hsums fun hs => ⟨hs.1.filter _, fun k hk => ?_⟩
  obtain ⟨hmem, hne⟩ := List.mem_filter.1 hk
  rw [if_neg (by simpa using hne)]
  exact hmem

/-- A frame that leaves OPEN, with its class's entry (R54). -/
theorem keeps_markSealing {f : FrameNo} (cause : SealCause) (hopen : (s.frame f).state = .opened) :
    Keeps flux s (markSealing f cause s) := by
  have hframe : ∀ k, (markSealing f cause s).frame k =
      if k = f then (s.frame f).sealedBy cause s.tick else s.frame k := fun k => by
    unfold markSealing
    split <;> exact frame_modFrame s f k (Frame.sealedBy cause s.tick)
  have hqueue : (markSealing f cause s).sealQ = s.sealQ := by unfold markSealing; split <;> rfl
  have htable : ∀ c, (markSealing f cause s).classFrame c =
      if (s.frame f).cls = some c then none else s.classFrame c := fun c => by
    unfold markSealing
    split
    · next d hd => simp only [classFrame_setClassFrame, hd, Option.some.injEq, eq_comm]; rfl
    · next hnone => simp [hnone, State.classFrame]
  refine .of_packs (by unfold markSealing; split <;> rfl) (fun hs => ?_) (fun hs k => ?_) fun hs c k => ?_
  · refine ⟨hqueue ▸ hs.1, fun k hk => ?_⟩
    rw [hqueue] at hk
    rw [hframe, if_neg]
    · exact hs.2 k hk
    · rintro rfl
      simp [hs.2 k hk] at hopen
  · rw [hframe]
    split
    · exact hs f
    · exact hs k
  · rw [hframe, htable]
    have := hs c k
    by_cases hkf : k = f
    · subst hkf
      simp_all [Frame.sealedBy]
    · rw [if_neg hkf]
      split
      · next hc =>
        have hmine := (hs c f).2 ⟨hopen, hc⟩
        simp only [hmine, Option.some.injEq, Ne.symm hkf, false_iff] at this
        simpa using this
      · exact this

/-- A FREE frame opened for a class that has no OPEN frame (R50). -/
theorem keeps_openFrame {f : FrameNo} {c : ClassNo} (hfree : (s.frame f).state = .free) (hnone : openFrameOf s c = none) :
    Keeps flux s (openFrame f c s) := by
  have hframe : ∀ k, (openFrame f c s).frame k =
      if k = f then Frame.opening c s.nextSerial s.tick else s.frame k := fun k =>
    frame_modFrame s f k fun _ => Frame.opening c s.nextSerial s.tick
  have htable : ∀ d, (openFrame f c s).classFrame d = if d = c then some f else s.classFrame d := fun d =>
    classFrame_setClassFrame s c d (some f)
  refine .of_packs rfl (fun hs => ⟨hs.1, fun k hk => ?_⟩) (fun hs k => ?_) fun hs d k => ?_
  · rw [hframe, if_neg]
    · exact hs.2 k hk
    · rintro rfl
      exact not_mem_sealQ (by simp [hfree]) hs hk
  · rw [hframe]
    split
    · exact frame_free_sumsOk
    · exact hs k
  · have hclass : s.classFrame c = none := by
      by_contra hsome
      obtain ⟨g, hg⟩ := Option.ne_none_iff_exists'.1 hsome
      simp [openFrameOf, hg, ((hs c g).1 hg).1] at hnone
    rw [hframe, htable]
    have := hs d k
    by_cases hd : d = c <;> by_cases hk : k = f
    · simp [hd, hk, Frame.opening]
    · subst hd
      simp only [hclass, reduceCtorEq, false_iff] at this
      simpa [hk, Ne.symm hk] using this
    · subst hk
      simp [hfree] at this
      simp [hd, this, Frame.opening, Ne.symm hd]
    · simpa [hd, hk] using this

/-- A change of a settled lane keeps the invariants when it leaves the lane in shape and still waiting, or still not waiting,
for a frame. -/
theorem keeps_modLane {l : LaneNo} {g : Lane → Lane} (hwithin : (s.lane l).within → (g (s.lane l)).within)
    (hlane : flux ≠ some l → (s.lane l).shaped →
      (g (s.lane l)).shaped ∧ ((g (s.lane l)).holdsNoFrame ↔ (s.lane l).holdsNoFrame)) :
    Keeps flux s (modLane l g s) := by
  refine .of_others rfl id (fun ⟨hwrites, hreads, hs⟩ => ⟨hwrites, hreads, fun k => ?_⟩) id
    fun ⟨hnodup, hs⟩ => ⟨hnodup, fun k hk => ?_⟩
  · rw [lane_modLane]
    split
    · exact hwithin (hs l)
    · exact hs k
  · have hsettled := hs k hk
    rw [Settled, lane_modLane, modLane_waitList]
    split
    · next hkl =>
      subst hkl
      obtain ⟨hshaped, hholds⟩ := hlane hk hsettled.1
      exact ⟨hshaped, hsettled.2.trans hholds.symm⟩
    · exact hsettled

/-- A change of the lane in flux. -/
theorem keeps_modLane_flux {l : LaneNo} {g : Lane → Lane} (hwithin : (s.lane l).within → (g (s.lane l)).within) :
    Keeps (some l) s (modLane l g s) :=
  keeps_modLane hwithin fun hne => absurd rfl hne

/-- The lane in flux leaves the wait list or joins it, at any place. -/
theorem keeps_waitList {l : LaneNo} {ws : List LaneNo} (hnodup : s.waitList.Nodup → ws.Nodup)
    (hothers : ∀ k, k ≠ l → (k ∈ ws ↔ k ∈ s.waitList)) : Keeps (some l) s { s with waitList := ws } :=
  .of_others rfl id id id fun ⟨hs, hlanes⟩ => ⟨hnodup hs, fun k hk =>
    ⟨(hlanes k hk).1, (hothers k fun e => hk (congrArg some e.symm)).trans (hlanes k hk).2⟩⟩

theorem keeps_leaveWaitList (l : LaneNo) : Keeps (some l) s (leaveWaitList l s) :=
  keeps_waitList (fun h => h.filter _) fun k hk => by simp [hk]

theorem keeps_joinWaitList (l : LaneNo) : Keeps (some l) s (joinWaitList l s) := by
  refine (keeps_waitList (ws := s.waitList.filter (· != l) ++ [l]) (fun h => ?_) fun k hk => ?_).trans
    (.inert rfl rfl)
  · exact List.nodup_append.2 ⟨h.filter _, List.nodup_singleton l, by simp +contextual⟩
  · simp [hk]

/-- Records of a stream that leave the list, or change but for their numbers. -/
theorem keeps_setRecords {st : Stream} {rs : List OpenReq}
    (h : (rs.map (·.slot)).Sublist ((s.records st).map (·.slot))) : Keeps flux s (setRecords st rs s) := by
  have hlength : rs.length ≤ (s.records st).length := by simpa using h.length_le
  cases st
  · exact .of_others rfl (fun ⟨hw, hr, ho⟩ => ⟨hw.sublist h, hr, ho⟩)
      (fun ⟨hw, hr, hl⟩ => ⟨hlength.trans hw, hr, hl⟩) id id
  · exact .of_others rfl (fun ⟨hw, hr, ho⟩ => ⟨hw, hr.sublist h, ho⟩)
      (fun ⟨hw, hr, hl⟩ => ⟨hw, hlength.trans hr, hl⟩) id id

/-- A request taken, under a number of its own (R2). -/
theorem keeps_addRecord {st : Stream} {r : OpenReq} (hroom : s.hasRoom st = true) (hslot : r.slot = s.freshSlot st) :
    Keeps flux s (addRecord st r s) := by
  have hfresh : r.slot ∉ (s.records st).map (·.slot) := hslot ▸ freshNat_not_mem _
  have hnodup : ((s.records st).map (·.slot)).Nodup → ((s.records st ++ [r]).map (·.slot)).Nodup := fun h => by
    rw [List.map_append, List.map_singleton]
    exact List.nodup_append.2 ⟨h, List.nodup_singleton _, fun x hx y hy e =>
      hfresh (List.mem_singleton.1 hy ▸ e ▸ hx)⟩
  have hlength : (s.records st ++ [r]).length ≤ listCapacity := by
    rw [List.length_append]
    exact Nat.succ_le_of_lt (of_decide_eq_true hroom)
  cases st
  · exact .of_others rfl (fun ⟨hw, hr, ho⟩ => ⟨hnodup hw, hr, ho⟩) (fun ⟨_, hr, hl⟩ => ⟨hlength, hr, hl⟩) id id
  · exact .of_others rfl (fun ⟨hw, hr, ho⟩ => ⟨hw, hnodup hr, ho⟩) (fun ⟨hw, _, hl⟩ => ⟨hw, hlength, hl⟩) id id

/-- Outstanding buffer requests and late tags, with the tags told apart (R9). -/
theorem keeps_tags {g : Port → Port} (hwrites : (g s.port).writes = s.port.writes)
    (hreads : (g s.port).reads = s.port.reads)
    (htags : (s.port.outstanding.map (·.btag) ++ s.port.late).Nodup →
      ((g s.port).outstanding.map (·.btag) ++ (g s.port).late).Nodup) : Keeps flux s (modPort g s) :=
  .of_others rfl (fun ⟨hw, hr, ho⟩ => ⟨by rwa [modPort_port, hwrites], by rwa [modPort_port, hreads], htags ho⟩)
    (fun ⟨hw, hr, hl⟩ => ⟨by rwa [modPort_port, hwrites], by rwa [modPort_port, hreads], hl⟩) id id

/-- Run control, in agreement with the global state. -/
theorem keeps_modRun {g : RunControl → RunControl} (h : RunOk s → RunOk (modRun g s)) : Keeps flux s (modRun g s) :=
  .of_others rfl id id h id

/-- The counters of run control are read by no invariant. -/
theorem keeps_modRun_counter {g : RunControl → RunControl} (hglobal : (g s.run).global = s.run.global)
    (hrunning : (g s.run).running = s.run.running) : Keeps flux s (modRun g s) :=
  .inert rfl (by simp [State.others, hglobal, hrunning])

end base

end Sys2Proof.Machine
end

section
/-! PROOFS. What the shared operations of the part keep: records and answers, sealing, placement, completion, voids, drains
and the fill engine, each assembled from the operations it calls. -/

namespace Sys2Proof.Machine

open Sys2Proof.Config

variable {s t : State} {flux : Option LaneNo}

/-! ## Records and buffer tags -/

theorem keeps_dropRecord (s : State) (st : Stream) (slot : Nat) : Keeps flux s (dropRecord st slot s) :=
  keeps_setRecords (List.filter_sublist.map _)

/-- A record changed under its own number. -/
theorem keeps_modRecord (s : State) (st : Stream) (slot : Nat) {g : OpenReq → OpenReq} (hg : ∀ r, (g r).slot = r.slot) :
    Keeps flux s (modRecord st slot g s) := by
  have hslots : ((s.records st).map fun r => if r.slot == slot then g r else r).map (·.slot) =
      (s.records st).map (·.slot) := by
    rw [List.map_map]
    refine List.map_congr_left fun r _ => ?_
    rw [Function.comp]
    split
    · exact hg r
    · rfl
  exact keeps_setRecords (hslots ▸ List.Sublist.refl _)

theorem keeps_answerRecord (s : State) (st : Stream) (slot : Nat) (code : RespCode) (data : List Byte) :
    Keeps flux s (answerRecord st slot code data s) := by
  unfold answerRecord
  split
  · exact (keeps_giveAnswer _ _ _ _ _ _).trans (keeps_dropRecord _ _ _)
  · exact .refl

theorem keeps_takeForwarded {st : Stream} (hroom : s.hasRoom st = true) (tag : Nat) (cls : ReqClass) (origin : ReqOrigin)
    (beats : Nat) (req : BufReq) : Keeps flux s (takeForwarded st tag cls origin beats req s) :=
  (keeps_addRecord hroom rfl).trans (.inert rfl rfl)

theorem keeps_dropOutstanding (s : State) (btag : Nat) : Keeps flux s (dropOutstanding btag s) :=
  keeps_tags rfl rfl fun h => h.sublist ((List.filter_sublist.map _).append (List.Sublist.refl _))

/-- A buffer request goes out under a tag of its own (R9, R17). -/
theorem keeps_issue (s : State) (origin : BufOrigin) (req : BufReq) : Keeps flux s (issue origin req s) := by
  refine keeps_tags rfl rfl fun h => ?_
  have hperm : ((s.port.outstanding ++
      [({ btag := s.freshBtag, origin := origin, req := req } : Outstanding)]).map (·.btag) ++
      s.port.late).Perm (s.freshBtag :: (s.port.outstanding.map (·.btag) ++ s.port.late)) := by
    simp only [List.map_append, List.map_cons, List.map_nil, List.append_assoc, List.singleton_append]
    exact List.perm_middle
  exact hperm.nodup_iff.2 (List.nodup_cons.2 ⟨freshBtag_not_mem s, h⟩)

/-! ## Sealing (chapter 8) -/

theorem keeps_examine (s : State) (f : FrameNo) : Keeps flux s (examine f s) :=
  .ite (fun _ => (keeps_modFrame rfl rfl id).trans (keeps_enqueueJob _ _ _)) fun _ => .refl

theorem keeps_enterSealing {f : FrameNo} (cause : SealCause) (h : (s.frame f).state = .opened) :
    Keeps flux s (enterSealing f cause s) :=
  (keeps_markSealing cause h).trans (keeps_examine _ f)

theorem keeps_requestSeal (s : State) (f : FrameNo) (cause : SealCause) : Keeps flux s (requestSeal f cause s) :=
  .ite (fun h => keeps_enterSealing cause (eq_of_beq h)) fun _ => .refl

theorem keeps_countHeld (s : State) : Keeps flux s (countHeld s) := .inert rfl rfl

/-- A frame whose drain record starts afresh (R139). -/
theorem sumsOk_drain_reset {fr : Frame} (st : FrameState) (c : Option ClassNo) (stage : SealStage) (h : fr.sumsOk) :
    ({ fr with state := st, cls := c, stage := stage, drain := some Drain.reset } : Frame).sumsOk :=
  ⟨h.1, drain_reset_inRange, h.2.2⟩

theorem keeps_sealComplete (s : State) (f : FrameNo) : Keeps flux s (sealComplete f s) := by
  unfold sealComplete
  refine .ite (fun h => ?_) fun _ => .refl
  obtain ⟨hstate, -⟩ := Bool.and_eq_true_iff.1 h
  have hsealing := eq_of_beq hstate
  refine .ite (fun _ => ?held) fun _ => ?sealed
  case held =>
    exact (keeps_unqueuedState (by simp [hsealing]) (by simp) (not_mem_sealQ (by simp [hsealing]))
      (sumsOk_drain_reset _ _ _)).trans (keeps_countHeld _)
  case sealed =>
    exact (keeps_queued (by simp [hsealing]) rfl (sumsOk_drain_reset _ _ _)).trans (keeps_modRun_counter rfl rfl)

/-! ## Results and entries -/

/-- A result queue stands within its places after a result joins it (R36). -/
theorem Lane.within_pushResult {ln : Lane} (r : Result) (h : ln.within) : (ln.pushResult r).within := by
  obtain ⟨hresults, hextents⟩ := h
  unfold Lane.pushResult
  split
  · next hroom => exact ⟨by simpa using hroom, hextents⟩
  · exact ⟨by simp [resultCapacity] at hresults ⊢; omega, hextents⟩

@[simp] theorem pushResult_state (ln : Lane) (r : Result) : (ln.pushResult r).state = ln.state := by
  unfold Lane.pushResult; split <;> rfl

@[simp] theorem pushResult_held (ln : Lane) (r : Result) : (ln.pushResult r).held = ln.held := by
  unfold Lane.pushResult; split <;> rfl

/-- Results and counters are no part of a lane's shape. -/
theorem pushResult_shaped (ln : Lane) (r : Result) : (ln.pushResult r).shaped ↔ ln.shaped := by
  unfold Lane.pushResult
  split <;> rfl

theorem keeps_recordRefusal (s : State) (l : LaneNo) (r : Result) : Keeps flux s (recordRefusal l r s) := by
  unfold recordRefusal raiseLaneErr
  refine .after (keeps_modAttn _ _ _) ?_
  refine keeps_modLane (fun h => Lane.within_pushResult r h) fun _ h => ⟨?_, ?_⟩
  · exact (pushResult_shaped _ r).2 h
  · simp [Lane.holdsNoFrame]

/-- A change of an entry that keeps its sums in range. -/
theorem keeps_modEntry (s : State) (f : FrameNo) (e : Nat) {g : Entry → Entry}
    (hg : ∀ en, en.sums.inRange → (g en).sums.inRange) : Keeps flux s (modEntry f e g s) := by
  refine keeps_modFrame rfl rfl fun ⟨hsums, hdrain, hentries⟩ => ⟨hsums, hdrain, fun en hen => ?_⟩
  obtain ⟨i, hi⟩ := List.mem_iff_getElem?.1 hen
  rw [List.getElem?_modify] at hi
  obtain ⟨x, hx, rfl⟩ := Option.map_eq_some_iff.1 hi
  have hmem := hentries x (List.mem_of_getElem? hx)
  split
  · exact hg x hmem
  · exact hmem

theorem completed_sums (now : Tick) (en : Entry) : (en.completed now).sums = en.sums := by
  unfold Entry.completed; split <;> rfl

theorem voided_sums (n : Nat) (now : Tick) (en : Entry) : (en.voided n now).sums = en.sums := by
  unfold Entry.voided; split <;> rfl

theorem beginVoid_sums (en : Entry) : en.beginVoid.sums = en.sums := by
  unfold Entry.beginVoid; split <;> rfl

theorem receive_sums (n : Nat) (en : Entry) : (en.receive n).sums = en.sums := by
  unfold Entry.receive; split <;> rfl

/-! ## Completion (R75, R76) -/

theorem keeps_enqueuePad (s : State) (l : LaneNo) (f : FrameNo) (en : Entry) : Keeps flux s (enqueuePad l f en s) :=
  .ite (fun _ => .refl) fun _ => keeps_enqueueJob _ _ _

theorem keeps_sealAfterRequest (s : State) (f : FrameNo) (en : Entry) : Keeps flux s (sealAfterRequest f en s) :=
  .ite (fun _ => keeps_requestSeal _ _ _) fun _ => .refl

theorem keeps_laneCompletes (s : State) (l : LaneNo) (r : Result) : Keeps (some l) s (laneCompletes l r s) :=
  keeps_modLane_flux fun h => ⟨(Lane.within_pushResult r h).1, Nat.zero_le _⟩

/-- The lane of a file that completes is in flux. -/
theorem keeps_finishFile (s : State) (l : LaneNo) (f : FrameNo) (e : Nat) (en : Entry) (slot : Nat) :
    Keeps (some l) s (finishFile l f e en slot s) := by
  unfold finishFile
  refine (keeps_modEntry s f e fun en h => (completed_sums s.tick en).symm ▸ h).trans ?_
  refine (keeps_enqueuePad _ l f en).trans ?_
  refine (keeps_laneCompletes _ l (completionResult e en (s.frame f))).trans ?_
  exact ((keeps_answerRecord _ _ _ _ _).trans (keeps_sealAfterRequest _ f en)).trans (keeps_examine _ f)

/-! ## What leaves the lanes and the wait list alone -/

section laneViews

variable (s)

@[simp] theorem examine_lane (f : FrameNo) (l : LaneNo) : (examine f s).lane l = s.lane l := by
  unfold examine; split <;> rfl

@[simp] theorem examine_waitList (f : FrameNo) : (examine f s).waitList = s.waitList := by
  unfold examine; split <;> rfl

@[simp] theorem enterSealing_lane (f : FrameNo) (cause : SealCause) (l : LaneNo) :
    (enterSealing f cause s).lane l = s.lane l := by
  rw [enterSealing, examine_lane]; unfold markSealing; split <;> rfl

@[simp] theorem enterSealing_waitList (f : FrameNo) (cause : SealCause) :
    (enterSealing f cause s).waitList = s.waitList := by
  rw [enterSealing, examine_waitList]; unfold markSealing; split <;> rfl

@[simp] theorem requestSeal_lane (f : FrameNo) (cause : SealCause) (l : LaneNo) :
    (requestSeal f cause s).lane l = s.lane l := by
  unfold requestSeal; split <;> simp

@[simp] theorem requestSeal_waitList (f : FrameNo) (cause : SealCause) :
    (requestSeal f cause s).waitList = s.waitList := by
  unfold requestSeal; split <;> simp

@[simp] theorem sealAfterRequest_lane (f : FrameNo) (en : Entry) (l : LaneNo) :
    (sealAfterRequest f en s).lane l = s.lane l := by
  unfold sealAfterRequest; split <;> simp

@[simp] theorem sealAfterRequest_waitList (f : FrameNo) (en : Entry) :
    (sealAfterRequest f en s).waitList = s.waitList := by
  unfold sealAfterRequest; split <;> simp

@[simp] theorem sealAfterPlacement_lane (f : FrameNo) (l : LaneNo) : (sealAfterPlacement f s).lane l = s.lane l := by
  unfold sealAfterPlacement; repeat' split
  all_goals simp

@[simp] theorem sealAfterPlacement_waitList (f : FrameNo) : (sealAfterPlacement f s).waitList = s.waitList := by
  unfold sealAfterPlacement; repeat' split
  all_goals simp

@[simp] theorem answerRecord_lane (st : Stream) (slot : Nat) (code : RespCode) (data : List Byte) (l : LaneNo) :
    (answerRecord st slot code data s).lane l = s.lane l :=
  congrArg (fun t => t.lane l) (answerRecord_frame s st slot code data)

@[simp] theorem answerRecord_waitList (st : Stream) (slot : Nat) (code : RespCode) (data : List Byte) :
    (answerRecord st slot code data s).waitList = s.waitList :=
  congrArg (fun t => t.waitList) (answerRecord_frame s st slot code data)

@[simp] theorem enqueuePad_lane (k : LaneNo) (f : FrameNo) (en : Entry) (l : LaneNo) :
    (enqueuePad k f en s).lane l = s.lane l := by
  unfold enqueuePad; split <;> rfl

@[simp] theorem enqueuePad_waitList (k : LaneNo) (f : FrameNo) (en : Entry) :
    (enqueuePad k f en s).waitList = s.waitList := by
  unfold enqueuePad; split <;> rfl

@[simp] theorem joinWaitList_lane (k l : LaneNo) : (joinWaitList k s).lane l = s.lane l := rfl

@[simp] theorem joinWaitList_waitList (k : LaneNo) :
    (joinWaitList k s).waitList = s.waitList.filter (· != k) ++ [k] := rfl

@[simp] theorem modEntry_waitList (f : FrameNo) (e : Nat) (g : Entry → Entry) : (modEntry f e g s).waitList = s.waitList := rfl

@[simp] theorem openFrame_lane (f : FrameNo) (c : ClassNo) (l : LaneNo) : (openFrame f c s).lane l = s.lane l := rfl

@[simp] theorem openFrame_waitList (f : FrameNo) (c : ClassNo) : (openFrame f c s).waitList = s.waitList := rfl

@[simp] theorem addEntry_lane (k : LaneNo) (a : Announce) (f : FrameNo) (l : LaneNo) :
    (addEntry k a f s).lane l = s.lane l := rfl

@[simp] theorem addEntry_waitList (k : LaneNo) (a : Announce) (f : FrameNo) :
    (addEntry k a f s).waitList = s.waitList.filter (· != k) := rfl

end laneViews

/-! ## A lane that comes to rest -/

/-- An IDLE or MUTED lane with no announce and no file has its shape. -/
theorem shaped_of_finished (ln : Lane) : ln.finished.shaped := ⟨rfl, ⟨rfl, rfl, rfl, rfl⟩, rfl⟩

/-- A lane whose file has completed is settled, off the wait list. -/
theorem settled_finishFile {l : LaneNo} (h : l ∉ s.waitList) (f : FrameNo) (e : Nat) (en : Entry) (slot : Nat) :
    Settled l (finishFile l f e en slot s) := by
  have hlane : (finishFile l f e en slot s).lane l =
      { ((s.lane l).pushResult (completionResult e en (s.frame f))).finished with
        completed := (s.lane l).completed + 1 } := by simp [finishFile, laneCompletes]
  have hwait : (finishFile l f e en slot s).waitList = s.waitList := by simp [finishFile, laneCompletes]
  refine ⟨?_, ?_⟩
  · rw [hlane]; exact shaped_of_finished (s.lane l)
  · rw [hlane, hwait]
    exact iff_of_false h fun ⟨_, hh, _⟩ => nomatch hh

/-! ## Placement (chapter 3) -/

theorem keeps_addEntry (s : State) (l : LaneNo) (a : Announce) (f : FrameNo) : Keeps (some l) s (addEntry l a f s) := by
  refine ((keeps_modFrame rfl rfl fun ⟨hsums, hdrain, hentries⟩ => ⟨hsums, hdrain, fun en hen => ?_⟩).trans
    (keeps_enqueueJob _ _ _)).trans (keeps_leaveWaitList l)
  rcases List.mem_append.1 hen with hold | hnew
  · exact hentries en hold
  · exact List.mem_singleton.1 hnew ▸ zero_inRange

theorem keeps_sealAfterPlacement (s : State) (f : FrameNo) : Keeps flux s (sealAfterPlacement f s) :=
  .ite (fun _ => keeps_requestSeal _ _ _) fun _ => .ite (fun _ => keeps_requestSeal _ _ _) fun _ => .refl

theorem keeps_acceptPlaced (s : State) (l : LaneNo) (f : FrameNo) (e slot : Nat) (en : Entry) :
    Keeps (some l) s (acceptPlaced l f e slot en s) :=
  .ite (fun _ => keeps_finishFile _ _ _ _ _ _) fun _ =>
    (keeps_modLane_flux fun h => ⟨h.1, Nat.zero_le _⟩).trans (keeps_answerRecord _ _ _ _ _)

theorem keeps_placeFile (s : State) (l : LaneNo) (a : Announce) (slot : Nat) (f : FrameNo) :
    Keeps (some l) s (placeFile l a slot f s) :=
  ((keeps_addEntry s l a f).trans (keeps_sealAfterPlacement _ f)).trans (keeps_acceptPlaced _ _ _ _ _ _)

theorem keeps_holdPlaced (s : State) (l : LaneNo) (a : Announce) (reason : WaitReason) (slot : Nat) :
    Keeps (some l) s (holdPlaced l a reason slot s) := by
  have hwaits : Keeps (some l) s (modLane l (Lane.wait a reason (startTimer s) slot) s) :=
    keeps_modLane_flux fun h => ⟨h.1, Nat.zero_le _⟩
  exact .ite (fun _ => hwaits.trans (keeps_joinWaitList l)) fun _ => hwaits

/-- The frame that placement opens is FREE (R50). -/
theorem lowestFree_free {g : FrameNo} (h : lowestFree s = some g) : (s.frame g).state = .free := by
  have := List.find?_some h
  simp only [Bool.and_eq_true, beq_iff_eq] at this
  exact this.2

theorem keeps_placeInNew (l : LaneNo) (a : Announce) (slot : Nat) (h : openFrameOf s a.cls = none) :
    Keeps (some l) s (placeInNew l a slot s) := by
  unfold placeInNew
  split
  · next g hg => exact (keeps_openFrame (lowestFree_free hg) h).trans (keeps_placeFile _ _ _ _ _)
  · exact keeps_holdPlaced _ _ _ _ _

/-- The frame that the class table names for placement is OPEN (R43). -/
theorem openFrameOf_opened {c : ClassNo} {f : FrameNo} (h : openFrameOf s c = some f) :
    s.classFrame c = some f ∧ (s.frame f).state = .opened := by
  simpa [openFrameOf, Option.filter_eq_some_iff] using h

@[simp] theorem examine_state (s : State) (f k : FrameNo) : ((examine f s).frame k).state = (s.frame k).state := by
  unfold examine makeReady
  split
  · rw [frame_enqueueJob, frame_modFrame]
    split <;> simp_all
  · rfl

@[simp] theorem examine_classFrame (s : State) (f : FrameNo) (c : ClassNo) :
    (examine f s).classFrame c = s.classFrame c := by
  unfold examine; split <;> rfl

/-- Once its OPEN frame has entered SEALING, a class has none (R43, R54). -/
theorem openFrameOf_enterSealing {c : ClassNo} {f : FrameNo} (cause : SealCause) (h : openFrameOf s c = some f) :
    openFrameOf (enterSealing f cause s) c = none := by
  obtain ⟨hclass, -⟩ := openFrameOf_opened h
  have hstate : ((enterSealing f cause s).frame f).state = .sealing := by
    rw [enterSealing, examine_state]; unfold markSealing; split <;> simp
  have htable : (enterSealing f cause s).classFrame c = none ∨ (enterSealing f cause s).classFrame c = some f := by
    rw [enterSealing, examine_classFrame]
    unfold markSealing
    split
    · rw [classFrame_setClassFrame]
      split
      · exact .inl rfl
      · exact .inr hclass
    · exact .inr hclass
  rcases htable with hnone | hsome
  · simp [openFrameOf, hnone]
  · simp [openFrameOf, hsome, hstate]

/-- The lane of a placement request is in flux. -/
theorem keeps_requestPlacement (s : State) (l : LaneNo) (a : Announce) (slot : Nat) :
    Keeps (some l) s (requestPlacement l a slot s) := by
  unfold requestPlacement
  refine .ite (fun _ => keeps_holdPlaced _ _ _ _ _) fun _ => ?_
  split
  · next f hf =>
    refine .ite (fun _ => keeps_placeFile _ _ _ _ _) fun _ => ?_
    exact (keeps_enterSealing .misfit (openFrameOf_opened hf).2).trans
      (keeps_placeInNew _ _ _ (openFrameOf_enterSealing .misfit hf))
  · next hnone => exact keeps_placeInNew _ _ _ hnone

theorem settled_holdPlaced {l : LaneNo} (h : l ∉ s.waitList) (a : Announce) {reason : WaitReason}
    (hreason : reason ≠ .voiding) (slot : Nat) : Settled l (holdPlaced l a reason slot s) := by
  have hshaped : ∀ t, (Lane.wait a reason t slot (s.lane l)).shaped := fun _ =>
    ⟨⟨_, rfl, hreason⟩, ⟨rfl, rfl, rfl, rfl⟩, rfl⟩
  unfold holdPlaced
  dsimp only
  split
  · next hno =>
    refine ⟨by simpa using hshaped _, iff_of_true (by simp) ?_⟩
    rw [joinWaitList_lane, lane_modLane_same]
    exact ⟨_, rfl, eq_of_beq hno⟩
  · next hno =>
    refine ⟨by simpa using hshaped _, iff_of_false h fun ⟨x, hx, hxr⟩ => hno ?_⟩
    simp only [lane_modLane_same, Lane.wait, Option.some.injEq] at hx
    subst hx
    simpa using hxr

theorem settled_acceptPlaced {l : LaneNo} (h : l ∉ s.waitList) (f : FrameNo) (e slot : Nat) (en : Entry) :
    Settled l (acceptPlaced l f e slot en s) := by
  unfold acceptPlaced
  split
  · exact settled_finishFile h f e en slot
  · refine ⟨?_, ?_⟩
    · rw [answerRecord_lane, lane_modLane_same]
      exact ⟨rfl, rfl, rfl⟩
    · rw [answerRecord_lane, answerRecord_waitList, lane_modLane_same]
      exact iff_of_false h fun ⟨_, hh, _⟩ => nomatch hh

theorem settled_placeFile (s : State) (l : LaneNo) (a : Announce) (slot : Nat) (f : FrameNo) :
    Settled l (placeFile l a slot f s) :=
  settled_acceptPlaced (by simp) _ _ _ _

theorem settled_placeInNew {l : LaneNo} (h : l ∉ s.waitList) (a : Announce) (slot : Nat) :
    Settled l (placeInNew l a slot s) := by
  unfold placeInNew
  split
  · exact settled_placeFile _ _ _ _ _
  · exact settled_holdPlaced h a (by decide) slot

/-- A lane whose placement has been decided is settled. -/
theorem settled_requestPlacement {l : LaneNo} (h : l ∉ s.waitList) (a : Announce) (slot : Nat) :
    Settled l (requestPlacement l a slot s) := by
  unfold requestPlacement
  split
  · exact settled_holdPlaced h a (by decide) slot
  · split
    · split
      · exact settled_placeFile _ _ _ _ _
      · exact settled_placeInNew (by simpa using h) a slot
    · exact settled_placeInNew h a slot

theorem keeps_wakeLane (s : State) (l : LaneNo) : Keeps none s (wakeLane l s) := by
  unfold wakeLane
  split
  · refine .ite (fun _ => ?_) fun _ => .refl
    exact ((keeps_leaveWaitList l).trans (keeps_requestPlacement _ _ _ _)).settle fun _ =>
      settled_requestPlacement (by simp [leaveWaitList]) _ _
  · exact .refl

/-- A loop over a list keeps what each of its rounds keeps. -/
theorem Keeps.foldl {α : Type} {g : State → α → State} (h : ∀ t x, Keeps flux t (g t x)) (xs : List α) (s : State) :
    Keeps flux s (xs.foldl g s) := by
  induction xs generalizing s with
  | nil => exact .refl
  | cons x xs ih => exact (h s x).trans (ih (g s x))

theorem keeps_wakePass (s : State) : Keeps none s (wakePass s) := .foldl (fun t l => keeps_wakeLane t l) _ _

theorem keeps_freeFrame {f : FrameNo} (hstate : (s.frame f).state ≠ .opened) (hqueue : SealQueueOk s → f ∉ s.sealQ) :
    Keeps none s (freeFrame f s) := by
  refine .after (keeps_wakePass _) ?_
  exact .trans (keeps_unqueuedState (g := fun _ => Frame.free) hstate (by decide) hqueue fun _ => frame_free_sumsOk)
    (.inert rfl rfl)

end Sys2Proof.Machine
end

section
/-! PROOFS. What completions, voids, drains, the fill engine and the actions keep. -/

namespace Sys2Proof.Machine

open Sys2Proof.Config

variable {s t : State} {flux : Option LaneNo}

/-! ## Completion and voids (chapter 4) -/

/-- Only a WAITING lane stands on the wait list (R19, R57). -/
theorem not_mem_waitList (hs : LanesOk s) {l : LaneNo} (h : (s.lane l).state ≠ .waiting) : l ∉ s.waitList := by
  obtain ⟨hshaped, -, hnames⟩ := hs
  rw [hnames l]
  rintro ⟨x, hx, hreason⟩
  have hl := hshaped l
  unfold Lane.shaped at hl
  split at hl
  case h_2 hstate => exact h hstate
  case h_4 => simp [hx, hreason] at hl
  all_goals simp [hx] at hl

theorem keeps_tryComplete (s : State) (l : LaneNo) : Keeps none s (tryComplete l s) := by
  unfold tryComplete
  split
  · refine .ite (fun h => ?_) fun _ => .refl
    have hstate : (s.lane l).state = .receiving := eq_of_beq (Bool.and_eq_true_iff.1 h).1
    exact (keeps_finishFile _ _ _ _ _ _).settle fun hs =>
      settled_finishFile (not_mem_waitList hs (by simp [hstate])) _ _ _ _
  · exact .refl

/-- The holding back of the last answer leaves a lane in its shape. -/
theorem keeps_holdLastAnswer (s : State) (l : LaneNo) (slot : Nat) : Keeps flux s (holdLastAnswer l slot s) := by
  refine .trans (keeps_modLane id fun _ h => ⟨?_, Iff.rfl⟩) (keeps_modRecord _ _ _ fun _ => rfl)
  unfold Lane.shaped at h ⊢
  split <;> simp_all [Lane.noFile]

theorem keeps_giveLastAnswer (s : State) (l : LaneNo) : Keeps flux s (giveLastAnswer l s) := by
  unfold giveLastAnswer
  split
  · exact keeps_answerRecord _ _ _ _ _
  · exact .refl

theorem keeps_voidEntry (s : State) (l : LaneNo) : Keeps flux s (voidEntry l s) := by
  unfold voidEntry
  split
  · exact keeps_modEntry _ _ _ fun en h => (beginVoid_sums en).symm ▸ h
  · exact .refl

@[simp] theorem giveLastAnswer_lane (s : State) (l k : LaneNo) : (giveLastAnswer l s).lane k = s.lane k := by
  unfold giveLastAnswer; split <;> simp

@[simp] theorem voidEntry_lane (s : State) (l k : LaneNo) : (voidEntry l s).lane k = s.lane k := by
  unfold voidEntry; split <;> rfl

/-- The lane whose file begins to be voided is VOIDING, with the rest of its file. -/
@[simp] theorem beginVoid_lane_state (s : State) (l : LaneNo) (cause : VoidCause) :
    ((beginVoid l cause s).lane l).state = .voiding := by
  simp [beginVoid, Lane.beginVoid]

theorem keeps_beginVoid {l : LaneNo} (cause : VoidCause) (h : (s.lane l).state = .receiving) :
    Keeps flux s (beginVoid l cause s) := by
  refine ((keeps_giveLastAnswer s l).trans (keeps_voidEntry _ l)).trans (keeps_modLane id fun _ hshaped => ?_)
  simp only [voidEntry_lane, giveLastAnswer_lane, Lane.shaped, h] at hshaped ⊢
  obtain ⟨hheld, hfile, -⟩ := hshaped
  exact ⟨⟨nofun, hfile, rfl⟩, by simp [Lane.holdsNoFrame, Lane.beginVoid, hheld]⟩

theorem keeps_afterVoid (s : State) (l : LaneNo) : Keeps (some l) s (afterVoid l s) := by
  unfold afterVoid
  split
  · exact (keeps_modLane_flux fun h => ⟨h.1, Nat.zero_le _⟩).trans (keeps_requestPlacement _ _ _ _)
  · exact keeps_modLane_flux fun h => ⟨h.1, Nat.zero_le _⟩

/-- A lane that has dropped its voided file and holds no announce is IDLE or MUTED in shape (R34). -/
theorem shaped_of_dropFile {ln : Lane} (h : ln.held = none) :
    ({ ln.dropFile with state := if ln.muteMark then .muted else .idle, muteMark := false } : Lane).shaped := by
  cases hmark : ln.muteMark <;> exact ⟨h, ⟨rfl, rfl, rfl, rfl⟩, rfl⟩

theorem settled_afterVoid {l : LaneNo} (h : l ∉ s.waitList) : Settled l (afterVoid l s) := by
  unfold afterVoid
  split
  · exact settled_requestPlacement (s := modLane l Lane.dropFile s) h _ _
  · next hheld =>
    refine ⟨?_, ?_⟩
    · rw [lane_modLane_same]
      exact shaped_of_dropFile hheld
    · rw [lane_modLane_same]
      exact iff_of_false h (by simp [Lane.holdsNoFrame, Lane.dropFile, hheld])

theorem keeps_withdrawShare (s : State) (f : FrameNo) (en : Entry) : Keeps flux s (withdrawShare f en s) :=
  keeps_modFrame rfl rfl fun ⟨_, hdrain, hentries⟩ => ⟨withdraw_inRange _ _ _, hdrain, hentries⟩

theorem keeps_recordVoid (s : State) (l : LaneNo) (f : FrameNo) (e : Nat) (en : Entry) :
    Keeps (some l) s (recordVoid l f e en s) := by
  unfold recordVoid raiseLaneErr
  refine .trans ?_ (keeps_modAttn _ _ _)
  exact keeps_modLane_flux fun h => Lane.within_pushResult _ h

/-- The void of a VOIDING lane ends, and the lane comes to rest. -/
theorem keeps_endVoid {l : LaneNo} (h : (s.lane l).state = .voiding) : Keeps none s (endVoid l s) := by
  unfold endVoid
  split
  · next f e en _ =>
    refine Keeps.settle (l := l) ?_ fun hs => settled_afterVoid ?_
    · refine (keeps_withdrawShare s f en).trans ?_
      refine (keeps_enqueueJob _ _ (voidFillJob l f en)).trans ?_
      refine .trans ?_ (((keeps_recordVoid _ l f e en).trans (keeps_examine _ f)).trans (keeps_afterVoid _ l))
      exact keeps_modEntry _ f e fun x hx => (voided_sums _ _ x).symm ▸ hx
    · rw [examine_waitList]
      exact not_mem_waitList hs (by simp [h])
  · exact .refl

theorem keeps_tryVoidEnd (s : State) (l : LaneNo) : Keeps none s (tryVoidEnd l s) := by
  refine .ite (fun h => keeps_endVoid ?_) fun _ => .refl
  simp only [voidMayEnd, Bool.and_eq_true, beq_iff_eq] at h
  exact h.1.1

/-! ## Held announces (R30 to R32) -/

/-- A lane whose held announce is dropped keeps a shape (R31, R32). -/
theorem shaped_dropHeld {ln : Lane} (h : ln.shaped) (hheld : ln.held ≠ none) : ln.dropHeld.shaped := by
  unfold Lane.shaped at h
  unfold Lane.dropHeld
  cases hstate : ln.state <;> simp only [hstate] at h
  case waiting =>
    obtain ⟨-, hfile, -⟩ := h
    exact ⟨rfl, hfile, rfl⟩
  case voiding =>
    obtain ⟨-, hfile, htimer⟩ := h
    simp [Lane.shaped, hfile, htimer]
  all_goals exact absurd h.1 hheld

@[simp] theorem dropHeld_held (ln : Lane) : ln.dropHeld.held = none := by
  unfold Lane.dropHeld; split <;> rfl

theorem keeps_refuseHeld (s : State) (l : LaneNo) (code : ResultCode) : Keeps none s (refuseHeld l code s) := by
  unfold refuseHeld
  split
  · next x hx =>
    refine Keeps.settle (l := l) ?_ fun hs => ?_
    · refine .trans ?_ (keeps_leaveWaitList l)
      refine .trans ((keeps_answerRecord _ _ _ _ _).trans (keeps_recordRefusal _ _ _)) (keeps_modLane_flux fun h => ?_)
      unfold Lane.dropHeld
      split <;> exact h
    · have hlane : ((leaveWaitList l (modLane l Lane.dropHeld (recordRefusal l (x.ann.refusal code)
          (answerRecord .write x.slot .refused [] s)))).lane l) = Lane.dropHeld
            { (s.lane l).pushResult (x.ann.refusal code) with refusedAnn := (s.lane l).refusedAnn + 1 } := by
        simp [recordRefusal, raiseLaneErr]
      refine ⟨?_, ?_⟩
      · rw [hlane]
        exact shaped_dropHeld ((pushResult_shaped _ (x.ann.refusal code)).2 (hs.1 l)) (by simp [hx])
      · rw [hlane]
        exact iff_of_false (by simp [leaveWaitList]) (by simp only [Lane.holdsNoFrame, dropHeld_held]; nofun)
  · exact .refl

/-! ## Drains (chapter 9) -/

theorem keeps_clearMarks (s : State) (f : FrameNo) : Keeps flux s (clearMarks f s) := by
  have hslots : (s.port.reads.map (OpenReq.unmark f)).map (·.slot) = s.port.reads.map (·.slot) := by
    rw [List.map_map]
    refine List.map_congr_left fun r _ => ?_
    simp only [Function.comp, OpenReq.unmark]
    split
    · split <;> rfl
    · rfl
  exact keeps_setRecords (hslots ▸ List.Sublist.refl _)

theorem keeps_modDrain (s : State) (f : FrameNo) {g : Drain → Drain}
    (hg : ∀ d, d.sums.inRange → (g d).sums.inRange) : Keeps flux s (modDrain f g s) :=
  keeps_modFrame rfl rfl fun ⟨hsums, hdrain, hentries⟩ => ⟨hsums, fun d hd => by
    obtain ⟨x, hx, rfl⟩ := Option.map_eq_some_iff.1 hd
    exact hg x (hdrain x hx), hentries⟩

theorem keeps_beginPass (s : State) (f : FrameNo) : Keeps flux s (beginPass f s) :=
  keeps_modFrame rfl rfl fun ⟨hsums, _, hentries⟩ => ⟨hsums, drain_reset_inRange, hentries⟩

theorem keeps_startPass {f : FrameNo} (h : (s.frame f).state = .sealed) : Keeps flux s (startPass f s) :=
  .trans (keeps_unqueued (g := fun fr => { fr with state := .draining }) (by simp [h]) (by simp) id)
    (keeps_beginPass _ f)

theorem keeps_restartPass (s : State) (f : FrameNo) : Keeps flux s (restartPass f s) :=
  (keeps_clearMarks s f).trans (keeps_beginPass _ f)

theorem take_sums (x : Timer) (case : ClaimCase) (d : Drain) : (d.take x case).sums = d.sums := by
  cases case <;> rfl

theorem keeps_drainRead (r : ReadReq) (f : FrameNo) (off : Nat) (hroom : s.hasRoom .read = true) :
    Keeps flux s (drainRead r f off s) := by
  refine .after (keeps_takeForwarded (st := .read) ?_ _ _ _ _ _)
    (keeps_modDrain s f fun d h => (take_sums _ _ d).symm ▸ h)
  exact hroom

theorem keeps_frameRead (r : ReadReq) (f : FrameNo) (off : Nat) (hroom : s.hasRoom .read = true) :
    Keeps flux s (frameRead r f off s) := by
  have hforward : ∀ i, Keeps flux s (forwardDrainRead r i s) := fun i => keeps_takeForwarded hroom _ _ _ _ _
  have hrestart : (restartPass f s).hasRoom .read = true := by
    simp only [State.hasRoom, State.records, restartPass, beginPass, clearMarks, setRecords, modFrame_port, modPort_port,
      List.length_map] at hroom ⊢
    exact hroom
  unfold frameRead
  split
  iterate 3 exact keeps_giveAnswer _ _ _ _ _ _
  · next hstate => exact .ite (fun _ => (keeps_startPass hstate).trans (keeps_drainRead _ _ _ hroom)) fun _ => hforward _
  · split
    · exact (keeps_restartPass s f).trans (keeps_drainRead _ _ _ hrestart)
    · exact keeps_drainRead _ _ _ hroom
  · exact hforward _
  · exact hforward _

/-- A DRAINING frame that ends its pass (R148). -/
theorem keeps_endPass {f : FrameNo} {st : FrameState} (h : (s.frame f).state = .draining) (hst : st ≠ .opened) :
    Keeps flux s (endPass f st s) := by
  have hframe : (clearMarks f s).frame f = s.frame f := rfl
  refine (keeps_clearMarks s f).trans (keeps_unqueuedState (by simp [hframe, h]) hst
    (not_mem_sealQ (by simp [hframe, h])) fun ⟨hsums, hdrain, hentries⟩ => ⟨hsums, fun d hd => ?_, hentries⟩)
  obtain ⟨x, hx, rfl⟩ := Option.map_eq_some_iff.1 hd
  exact hdrain x hx

theorem keeps_tryEvaluate (s : State) (f : FrameNo) : Keeps none s (tryEvaluate f s) := by
  refine .ite (fun h => ?_) fun _ => .refl
  have hstate : (s.frame f).state = .draining := eq_of_beq (Bool.and_eq_true_iff.1 h).1
  unfold evaluate
  refine .ite (fun _ => ?drained) fun _ => (keeps_endPass hstate (by decide)).trans (keeps_countHeld _)
  have hdrained : Keeps none s (modRun (fun r => { r with drainedN := r.drainedN + 1 }) (endPass f .drained s)) :=
    (keeps_endPass hstate (by decide)).trans (keeps_modRun_counter rfl rfl)
  have hends : ((modRun (fun r => { r with drainedN := r.drainedN + 1 }) (endPass f .drained s)).frame f).state =
      .drained := by simp [endPass]
  exact .ite (fun _ => hdrained.trans (keeps_freeFrame (by rw [hends]; nofun) (not_mem_sealQ (by rw [hends]; nofun))))
    fun _ => hdrained

theorem keeps_countOkay (s : State) (i : DrainReadInfo) (data : List Byte) : Keeps none s (countOkay i data s) :=
  (keeps_modDrain s i.frame fun _ h => addBytes_inRange h _ _).trans (keeps_tryEvaluate _ _)

theorem keeps_memberFault (s : State) (i : DrainReadInfo) : Keeps none s (memberFault i s) := by
  have hbreaks : Keeps none s (modDrain i.frame (fun d => { d with
      broken := true, outstanding := if i.counted then d.outstanding - 1 else d.outstanding }) s) :=
    keeps_modDrain s i.frame fun _ h => h
  exact .ite (fun _ => hbreaks.trans (keeps_tryEvaluate _ _)) fun _ => hbreaks

theorem keeps_backToSealed {f : FrameNo} (h : (s.frame f).state ≠ .opened ∧ (s.frame f).state ≠ .sealed) :
    Keeps flux s (backToSealed f s) :=
  keeps_queued h rfl fun ⟨hsums, _, hentries⟩ => ⟨hsums, drain_reset_inRange, hentries⟩

/-! ## The ends of a stop and of a core reset (R177, R180) -/

theorem keeps_tryStop (s : State) : Keeps flux s (tryStop s) :=
  .ite (fun _ => keeps_modRun fun _ => by simp [RunOk]) fun _ => .refl

theorem keeps_tryClear (s : State) : Keeps flux s (tryClear s) := by
  refine .ite (fun h => keeps_modRun fun hs => ?_) fun _ => .refl
  have hrunning : s.run.running = some .resetCore := by
    simp only [coreIsClear, Bool.and_eq_true, beq_iff_eq] at h
    exact h.1.1.1
  simp only [RunOk, hrunning] at hs
  have hglobal : s.run.global = .config := by simpa using hs
  simp [RunOk, hglobal]

/-! ## The fill engine (chapter 7) -/

theorem keeps_retryJobLimit (s : State) (l : LaneNo) : Keeps none s (retryJobLimit l s) := by
  unfold retryJobLimit
  split
  · next x hx =>
    refine .ite (fun h => ?_) fun _ => .refl
    have hreason : x.reason = .jobLimit := eq_of_beq (Bool.and_eq_true_iff.1 h).2
    refine (keeps_requestPlacement _ _ _ _).settle fun hs => settled_requestPlacement ?_ _ _
    rw [hs.2.2 l]
    rintro ⟨y, hy, hno⟩
    simp_all
  · exact .refl

theorem keeps_laneReport (s : State) (l : LaneNo) : Keeps none s (laneReport l s) := by
  unfold laneReport
  split
  · exact keeps_retryJobLimit _ _
  · exact keeps_tryComplete _ _
  · exact keeps_tryVoidEnd _ _
  · exact .refl
  · exact .refl

theorem keeps_sealReport (s : State) (j : Job) : Keeps flux s (sealReport j s) :=
  .ite (fun _ => keeps_sealComplete _ _) fun _ => keeps_examine _ _

theorem keeps_jobReports (s : State) (j : Job) : Keeps none s (jobReports j s) := by
  unfold jobReports
  split
  · exact (keeps_sealReport s j).trans (keeps_laneReport _ _)
  · exact keeps_sealReport s j

theorem keeps_popJob (s : State) : Keeps flux s (popJob s) := .inert rfl rfl

theorem keeps_tryCompleteJob (s : State) : Keeps none s (tryCompleteJob s) := by
  refine .ite (fun _ => ?_) fun _ => .refl
  unfold completeJob
  split
  · next j _ _ => exact ((keeps_popJob s).trans (keeps_jobReports _ j)).trans (keeps_tryStop _)
  · exact .refl

theorem keeps_countAnswered (s : State) : Keeps flux s (countAnswered s) := .inert rfl rfl

theorem keeps_addBurst (s : State) (f : FrameNo) (off : Nat) (bytes : List (Option Byte)) :
    Keeps flux s (addBurst f off bytes s) :=
  keeps_modFrame rfl rfl fun ⟨hsums, hrest⟩ => ⟨addBytes_inRange hsums _ _, hrest⟩

theorem keeps_setImageFault (s : State) (f : FrameNo) : Keeps flux s (setImageFault f s) := by
  unfold setImageFault raiseImageFault
  exact .after (keeps_modAttn _ _ _) (keeps_modFrame rfl rfl id)

theorem keeps_grantFill (s : State) : Keeps flux s (grantFill s) := by
  unfold grantFill
  split
  · exact (keeps_issue s _ _).trans (.inert rfl rfl)
  · exact .refl

theorem keeps_grantPass (s : State) : Keeps flux s (grantPass s) := by
  unfold grantPass
  split
  · exact (keeps_issue s _ _).trans (.inert rfl rfl)
  · exact .refl

theorem keeps_grant (s : State) : Keeps flux s (grant s) := by
  unfold grant
  split
  · exact keeps_grantPass s
  · exact keeps_grantFill s
  · exact .ite (fun _ => keeps_grantFill s) fun _ => keeps_grantPass s
  · exact .refl

/-! ## Answers to body writes (R70, R71) -/

theorem keeps_addBody (s : State) (i : BodyWriteInfo) (bytes : List (Option Byte)) :
    Keeps flux s (addBody i bytes s) := by
  refine (keeps_modEntry s i.frame i.entry fun en h => ?_).trans
    (keeps_modFrame rfl rfl fun ⟨hsums, hrest⟩ => ⟨addBytes_inRange hsums _ _, hrest⟩)
  unfold Entry.addBody
  split
  · exact addBytes_inRange h _ _
  · exact h

/-- A lane whose outstanding writes fall keeps its shape: a lane with no file has none. -/
theorem shaped_outstanding_sub {ln : Lane} (h : ln.shaped) (n : Word) :
    ({ ln with outstanding := ln.outstanding - 1, clamped := n } : Lane).shaped := by
  unfold Lane.shaped at h ⊢
  split <;> simp_all [Lane.noFile]

theorem keeps_laneWriteOkay (s : State) (i : BodyWriteInfo) : Keeps flux s (laneWriteOkay i s) :=
  keeps_modLane id fun _ h => ⟨shaped_outstanding_sub h _, Iff.rfl⟩

theorem keeps_settleBodyOkay (s : State) (l : LaneNo) (slot : Nat) : Keeps none s (settleBodyOkay l slot s) :=
  .ite (fun _ => (keeps_holdLastAnswer _ _ _).trans (keeps_tryComplete _ _))
    fun _ => (keeps_answerRecord _ _ _ _ _).trans (keeps_tryVoidEnd _ _)

theorem keeps_settleBodyFault (s : State) (l : LaneNo) : Keeps none s (settleBodyFault l s) :=
  .ite (fun h => (keeps_beginVoid .memfault (eq_of_beq h)).trans (keeps_tryVoidEnd _ _)) fun _ => keeps_tryVoidEnd _ _

theorem keeps_passAnswer (s : State) (st : Stream) (r : OpenReq) (code : BufCode) (data : List Byte) :
    Keeps flux s (passAnswer st r code data s) :=
  .after (keeps_answerRecord _ _ _ _ _) (.inert rfl rfl)

theorem keeps_forgetLate (s : State) (btag : Nat) : Keeps flux s (forgetLate btag s) :=
  keeps_tags rfl rfl fun h => h.sublist ((List.Sublist.refl _).append List.filter_sublist)

/-! ## Deadlines (chapter 10) -/

theorem keeps_testAge (s : State) (f : FrameNo) : Keeps flux s (testAge f s) :=
  .ite (fun _ => keeps_modFrame rfl rfl id) fun _ => .refl

theorem keeps_testLane (s : State) (l : LaneNo) : Keeps flux s (testLane l s) := by
  refine keeps_modLane id fun _ h => ⟨?_, Iff.rfl⟩
  unfold Lane.shaped at h ⊢
  split <;> simp_all [Lane.noFile]

theorem keeps_testHold (s : State) (l : LaneNo) : Keeps flux s (testHold l s) := by
  refine keeps_modLane id fun _ h => ⟨?_, ?_⟩
  · unfold Lane.shaped at h ⊢
    split <;> simp_all [Lane.noFile]
  · simp [Lane.holdsNoFrame]

theorem keeps_testDrain (s : State) (f : FrameNo) : Keeps flux s (testDrain f s) := keeps_modDrain s f fun _ h => h

theorem keeps_forLanes {g : LaneNo → State → State} (h : ∀ l t, Keeps flux t (g l t)) (s : State) :
    Keeps flux s (forLanes g s) :=
  .foldl (fun t l => h l t) _ _

theorem keeps_forFrames {g : FrameNo → State → State} (h : ∀ f t, Keeps flux t (g f t)) (s : State) :
    Keeps flux s (forFrames g s) :=
  .foldl (fun t f => h f t) _ _

theorem keeps_testAll (s : State) : Keeps flux s (testAll s) :=
  (((keeps_forFrames (fun f t => keeps_testAge t f) s).trans (keeps_forLanes (fun l t => keeps_testLane t l) _)).trans
    (keeps_forLanes (fun l t => keeps_testHold t l) _)).trans (keeps_forFrames (fun f t => keeps_testDrain t f) _)

theorem keeps_testKind (s : State) (item : ConfigItem) : Keeps flux s (testKind item s) := by
  unfold testKind
  split
  · exact keeps_forFrames (fun f t => keeps_testAge t f) s
  · exact keeps_forLanes (fun l t => keeps_testLane t l) s
  · exact keeps_forLanes (fun l t => keeps_testHold t l) s
  · exact keeps_forFrames (fun f t => keeps_testDrain t f) s
  · exact .refl

theorem keeps_writeItem (s : State) (item : ConfigItem) (index : Byte) (data : Word) :
    Keeps flux s (writeItem item index data s) :=
  .ite (fun _ => keeps_linkAnswer _ _ _ _ _ _) fun _ =>
    .after (keeps_linkAnswer _ _ _ _ _ _)
      (.after (keeps_testKind (putItem item (clampItem item data) s) item) (.inert rfl rfl))

end Sys2Proof.Machine
end

section
/-! PROOFS. What every command keeps: the settled statements SealQueueKept (R43, R131), LanesKept (R19, R57), SumsKept (R83),
ClassTableKept (R43) and NumbersKept (R2, R9, R17, R36, R66, R172). -/

namespace Sys2Proof.Machine

open Sys2Proof.Config

variable {s t : State} {flux : Option LaneNo}

/-! ## Outcomes -/

/-- Every next state of an outcome keeps the invariants of `s`. -/
def OutcomeKeeps (s : State) (o : Host.Outcome State Fault Refusal) : Prop := ∀ t, o = .next t → Keeps none s t

theorem outcomeKeeps_next (h : Keeps none s t) : OutcomeKeeps s (.next t) := fun _ ht => by
  cases ht
  exact h

theorem outcomeKeeps_refused (r : Refusal) : OutcomeKeeps s (.refused r) := fun _ h => nomatch h

theorem outcomeKeeps_fault (r : Fault) : OutcomeKeeps s (.fault r) := fun _ h => nomatch h

theorem outcomeKeeps_live {f : State → State} (h : Keeps none s (f s)) : OutcomeKeeps s (live s f) :=
  outcomeKeeps_next (.ite (fun _ => .refl) fun _ => h)

theorem outcomeKeeps_checked {ok : Bool} {f : State → State} (h : Keeps none s (f s)) :
    OutcomeKeeps s (checked ok s f) := by
  unfold checked
  split
  · exact outcomeKeeps_live h
  · exact outcomeKeeps_refused _

theorem outcomeKeeps_withData {data : List Byte} {o : Host.Outcome State Fault Refusal} (h : OutcomeKeeps s o) :
    OutcomeKeeps s (withData data o) := by
  unfold withData
  split
  · exact h
  · exact outcomeKeeps_refused _

theorem outcomeKeeps_answered {btag : Nat} {k : Outstanding → State → Host.Outcome State Fault Refusal}
    (h : ∀ o, OutcomeKeeps s (k o s)) : OutcomeKeeps s (answered btag s k) := by
  unfold answered
  split
  · exact outcomeKeeps_next .refl
  · split
    · exact h _
    · split
      · exact outcomeKeeps_next .refl
      · exact outcomeKeeps_fault _

theorem outcomeKeeps_answeredRecord {btag : Nat} {data : Option (List Byte)}
    {k : Stream → OpenReq → Outstanding → State → State} (h : ∀ st r o, Keeps none s (k st r o s)) :
    OutcomeKeeps s (answeredRecord btag data s k) := by
  refine outcomeKeeps_answered fun o => ?_
  split
  · split
    · split
      · exact outcomeKeeps_next (h _ _ _)
      · exact outcomeKeeps_refused _
    · exact outcomeKeeps_next .refl
  · exact outcomeKeeps_next .refl

/-! ## Fabric requests (chapters 1, 2, 4, 9) -/

theorem keeps_leaveFabric (s : State) (src : WriteSource) : Keeps flux s (leaveFabric src s) := by
  cases src
  · exact .refl
  · exact keeps_setUntaken _ _ _

theorem keeps_leaveUntaken (s : State) (src : WriteSource) : Keeps flux s (leaveUntaken src s) := by
  cases src
  · exact keeps_setUntaken _ _ _
  · exact .refl

@[simp] theorem leaveFabric_hasRoom (s : State) (src : WriteSource) (st : Stream) :
    (leaveFabric src s).hasRoom st = s.hasRoom st := by cases src <;> cases st <;> rfl

@[simp] theorem leaveFabric_lane (s : State) (src : WriteSource) (l : LaneNo) :
    (leaveFabric src s).lane l = s.lane l := by cases src <;> rfl

/-- The port takes a write it routes itself while its list has room. -/
theorem keeps_portWrite {rt : Route} {src : WriteSource} {k : WriteReq → State → State}
    (h : ∀ w t, t.hasRoom .write = true → Keeps none t (k w t)) : Keeps none s (portWrite rt src k s) := by
  rcases portWrite_cases s rt src k with ⟨w, -, -, hroom, heq⟩ | heq
  · rw [heq]
    exact (keeps_leaveFabric s src).trans (h w _ (by simpa using hroom))
  · rw [heq]
    exact .refl

theorem keeps_portRead {rt : Route} {r : ReadReq} {k : State → State} (h : s.hasRoom .read = true → Keeps none s (k s)) :
    Keeps none s (portRead rt r k s) :=
  .ite (fun hc => h (Bool.and_eq_true_iff.1 hc).2) fun _ => .refl

/-- A lane that takes a write holds no announce, is not WAITING, and the write list has room (R2, R20). -/
theorem keeps_laneWrite {kind : LaneWriteKind} {src : WriteSource} {act : LaneNo → Nat → WriteReq → State → State}
    (h : ∀ l off w t, (t.lane l).held = none → t.hasRoom .write = true → Keeps none t (act l off w t)) :
    Keeps none s (laneWrite kind src act s) := by
  rcases laneWrite_cases s kind src act with ⟨w, l, off, -, -, -, ⟨htakes, -, heq⟩ | ⟨-, heq⟩⟩ | heq
  · simp only [laneTakes, Bool.and_eq_true, Option.isNone_iff_eq_none] at htakes
    obtain ⟨⟨hheld, -⟩, hroom⟩ := htakes
    rw [heq]
    exact (keeps_leaveFabric s src).trans (h l off w _ (by simpa using hheld) (by simpa using hroom))
  · rw [heq]
    exact keeps_leaveUntaken s src
  · rw [heq]
    exact .refl

theorem keeps_laneRead {kind : LaneReadKind} {r : ReadReq} {act : LaneNo → Nat → State → State}
    (h : ∀ l off, s.hasRoom .read = true → Keeps none s (act l off s)) : Keeps none s (laneRead kind r act s) := by
  unfold laneRead
  split
  · exact .ite (fun hc => h _ _ (Bool.and_eq_true_iff.1 hc).2) fun _ => .refl
  · exact .refl

theorem keeps_refuseWrite (s : State) (l : LaneNo) (tag : Nat) : Keeps flux s (refuseWrite l tag s) :=
  .after (keeps_modLane id fun _ h => ⟨h, Iff.rfl⟩) (keeps_giveAnswer _ _ _ _ _ _)

/-- The mute mark of a lane with no announce may change, and its state between IDLE and MUTED (R25). -/
theorem keeps_afterRefusal {l : LaneNo} (hheld : (s.lane l).held = none) : Keeps none s (afterRefusal l s) := by
  have hmute : ∀ {u : State}, (u.lane l).state = .voiding → (u.lane l).held = none →
      Keeps none u (modLane l (fun ln => { ln with muteMark := true }) u) := fun hstate hnone =>
    keeps_modLane id fun _ h => ⟨by simp_all [Lane.shaped], Iff.rfl⟩
  unfold afterRefusal
  split
  case h_1 hstate | h_2 hstate =>
    refine keeps_modLane id fun _ h => ⟨?_, Iff.rfl⟩
    rw [Lane.shaped, hstate] at h
    exact ⟨h.1, h.2.1, rfl⟩
  case h_3 hstate =>
    refine .after (keeps_tryVoidEnd _ _) ((keeps_beginVoid .superseded hstate).trans (hmute (by simp) ?_))
    simp [beginVoid, Lane.beginVoid]
  case h_4 hstate => exact hmute hstate hheld
  case h_5 => exact .refl

theorem keeps_refuseAnnounce {l : LaneNo} (hheld : (s.lane l).held = none) (tag : Nat) (a : RawAnnounce)
    (code : ResultCode) : Keeps none s (refuseAnnounce l tag a code s) := by
  refine .after (keeps_tryStop _) ?_
  refine .after (keeps_afterRefusal ?_) (.after (keeps_recordRefusal _ _ _) (keeps_giveAnswer _ _ _ _ _ _))
  simpa [recordRefusal, raiseLaneErr, giveAnswer] using hheld

/-- An announce held behind a void waits for no frame (R26). -/
theorem keeps_holdBehindVoid {l : LaneNo} (hstate : (s.lane l).state = .voiding) (a : Announce) (slot : Nat) :
    Keeps none s (holdBehindVoid l a slot s) := by
  refine keeps_modLane id fun _ h => ?_
  rw [Lane.shaped, hstate] at h
  obtain ⟨hheld, hfile, htimer⟩ := h
  refine ⟨by simp [Lane.shaped, hstate, hfile, htimer], iff_of_false (by simp [Lane.holdsNoFrame]) ?_⟩
  rintro ⟨x, hx, hreason⟩
  simpa [hreason] using hheld x hx

theorem keeps_acceptAnnounce (s : State) (l : LaneNo) (a : Announce) (slot : Nat) :
    Keeps none s (acceptAnnounce l a slot s) := by
  unfold acceptAnnounce
  split
  case h_1 hstate | h_2 hstate =>
    exact (keeps_requestPlacement _ _ _ _).settle fun hs =>
      settled_requestPlacement (not_mem_waitList hs (by simp [hstate])) _ _
  case h_3 hstate =>
    exact .after (keeps_tryVoidEnd _ _)
      ((keeps_beginVoid .superseded hstate).trans (keeps_holdBehindVoid (by simp) _ _))
  case h_4 hstate => exact keeps_holdBehindVoid hstate _ _
  case h_5 => exact .refl

@[simp] theorem addRecord_lane (s : State) (st : Stream) (r : OpenReq) (l : LaneNo) :
    (addRecord st r s).lane l = s.lane l := by cases st <;> rfl

theorem keeps_takeAnnounce {l : LaneNo} (hheld : (s.lane l).held = none) (hroom : s.hasRoom .write = true) (off : Nat)
    (w : WriteReq) : Keeps none s (takeAnnounce l off w s) := by
  unfold takeAnnounce
  split
  · exact keeps_refuseAnnounce hheld _ _ _
  · exact (keeps_addRecord (r := announceRecord l (s.freshSlot .write) w.tag) hroom rfl).trans
      (keeps_acceptAnnounce _ _ _ _)

/-- What a body write that is forwarded leaves of its lane: the extents that the plan allows (R68). -/
theorem bodyPlan_extents {len k : Nat} {es es' : List Extent} {bytes fwd : List (Option Byte)} {c : Extent}
    (h : bodyPlan len es k bytes = .forward fwd c es') : es'.length ≤ extentCapacity := by
  unfold bodyPlan at h
  repeat' split at h
  case h_2.isFalse.isFalse hcapacity =>
    cases h
    simpa using hcapacity
  all_goals cases h

theorem keeps_receiveBodyWrite {l : LaneNo} (hstate : (s.lane l).state = .receiving) (hroom : s.hasRoom .write = true)
    (off : Nat) (w : WriteReq) : Keeps none s (receiveBodyWrite l off w s) := by
  unfold receiveBodyWrite
  split
  · split
    · exact .after (keeps_modLane id fun _ h => ⟨h, Iff.rfl⟩) (keeps_giveAnswer _ _ _ _ _ _)
    · exact keeps_refuseWrite _ _ _
    · next f e en _ _ _ _ es hplan =>
      unfold forwardBodyWrite
      refine .after (keeps_takeForwarded (st := .write) (by exact hroom) _ _ _ _ _) ?_
      refine .after (keeps_modLane (fun h => ⟨h.1, bodyPlan_extents hplan⟩) fun _ h => ⟨?_, Iff.rfl⟩)
        (keeps_modEntry s f e fun en h => (receive_sums (claimedBytes es) en).symm ▸ h)
      rw [lane_modEntry, Lane.shaped, hstate] at h
      simpa [Lane.shaped, Lane.claimed, hstate] using h
  · exact .refl

theorem keeps_takeBodyWrite {l : LaneNo} (hroom : s.hasRoom .write = true) (off : Nat) (w : WriteReq) :
    Keeps none s (takeBodyWrite l off w s) := by
  unfold takeBodyWrite
  split
  case h_1 | h_2 => exact keeps_refuseWrite _ _ _
  case h_3 => exact keeps_giveAnswer _ _ _ _ _ _
  case h_4 hstate => exact keeps_receiveBodyWrite hstate hroom _ _
  case h_5 => exact .refl

theorem keeps_takeStatusRead (s : State) (r : ReadReq) (l : LaneNo) (off : Nat) :
    Keeps none s (takeStatusRead r l off s) := by
  refine .after (keeps_modLane (fun h => ?_) fun _ h => ?_) (keeps_giveAnswer _ _ _ _ _ _)
  · split
    · exact ⟨(List.length_tail ▸ Nat.sub_le _ _).trans h.1, h.2⟩
    · exact h
  · split <;> exact ⟨h, Iff.rfl⟩

theorem keeps_takeBodyRead {l : LaneNo} (r : ReadReq) (hroom : s.hasRoom .read = true) (off : Nat) :
    Keeps none s (takeBodyRead r l off s) := by
  have hmap : ∀ f en, Keeps none s (mapBodyRead r l (off - 64) f en s) := fun f en =>
    .ite (fun _ => keeps_giveAnswer _ _ _ _ _ _) fun _ => keeps_takeForwarded hroom _ _ _ _ _
  unfold takeBodyRead
  split
  case h_1 | h_2 =>
    split
    · exact hmap _ _
    · exact .refl
  all_goals exact keeps_giveAnswer _ _ _ _ _ _

/-! ## Actions (chapter 11) -/

/-- An action that run control takes: while START or ENTER_CONFIG is taken, no action runs (R173). -/
theorem keeps_takeAction {a : Action} {index : Byte} {f : State → State}
    (h : admits s.run.running a = true → Keeps none s (f s)) : Keeps none s (takeAction a index f s) :=
  .ite (fun hc => (h hc).trans (keeps_linkAnswer _ _ _ _ _ _)) fun _ => keeps_linkAnswer _ _ _ _ _ _

/-- START and ENTER_CONFIG are taken only while no action runs (R173). -/
theorem idle_of_admits {running : Option Action} {a : Action} (ha : a = .start ∨ a = .enterConfig)
    (h : admits running a = true) : running = none := by
  rcases ha with rfl | rfl <;> (cases running with
    | none => rfl
    | some b => cases b <;> simp [admits] at h)

theorem keeps_startPart (hidle : s.run.running = none) : Keeps none s (startPart s) := by
  have hrun : ∀ u : State, u.run.running = none →
      Keeps none u (finish .start .done (modRun (fun r => { r with global := .running }) u)) := fun u hu =>
    .after (keeps_finish _ _ _ _) (keeps_modRun fun _ => by simp [RunOk, hu])
  unfold startPart
  split
  · exact .ite (fun _ => keeps_finish _ _ _ _) fun _ => .after (hrun { s with nextSerial := packSerialBase s } hidle)
      (.inert rfl rfl)
  · exact hrun s hidle
  all_goals exact keeps_finish _ _ _ _

theorem keeps_unmute (s : State) (l : LaneNo) : Keeps flux s (unmute l s) := by
  refine keeps_modLane id fun _ h => ⟨?_, Iff.rfl⟩
  unfold Lane.shaped at h ⊢
  cases hstate : (s.lane l).state <;> simp_all [Lane.noFile]

theorem keeps_enterConfigPart (hidle : s.run.running = none) : Keeps none s (enterConfigPart s) := by
  unfold enterConfigPart
  split
  · refine .ite (fun _ => ?_) fun _ => keeps_finish _ _ _ _
    refine .after (keeps_finish _ _ _ _) (.after (keeps_modRun fun _ => ?_) (keeps_forLanes (fun l t => keeps_unmute t l) s))
    simp [RunOk, hidle]
  all_goals exact keeps_finish _ _ _ _

theorem keeps_beginStop (s : State) {a : Action} (ha : a = .stop ∨ a = .halt) (cause : SealCause) :
    Keeps none s (beginStop a cause s) :=
  .after (keeps_forLanes (fun l t => keeps_refuseHeld t l _) _)
    (.after (keeps_forFrames (fun f t => keeps_requestSeal t f cause) _) (keeps_modRun fun _ => .inl ⟨ha, rfl⟩))

theorem keeps_stopPart (s : State) : Keeps none s (stopPart s) := by
  unfold stopPart
  split
  · exact (keeps_beginStop s (.inl rfl) _).trans (keeps_tryStop _)
  all_goals exact keeps_finish _ _ _ _

theorem keeps_haltLane (s : State) (l : LaneNo) : Keeps none s (haltLane l s) :=
  .ite (fun h => (keeps_beginVoid .halt (eq_of_beq h)).trans (keeps_tryVoidEnd _ _)) fun _ => .refl

theorem keeps_haltPart (s : State) : Keeps none s (haltPart s) := by
  have hlanes : ∀ u, Keeps none u (tryStop (forLanes haltLane u)) := fun u =>
    (keeps_forLanes (fun l t => keeps_haltLane t l) u).trans (keeps_tryStop _)
  unfold haltPart
  split
  · exact (keeps_beginStop s (.inr rfl) _).trans (hlanes _)
  · next hglobal => exact .after (hlanes _) (keeps_modRun fun _ => .inl ⟨.inr rfl, hglobal⟩)
  all_goals exact keeps_finish _ _ _ _

theorem keeps_flushPart (s : State) (c : ClassNo) : Keeps none s (flushPart c s) := by
  unfold flushPart
  split
  · next f hf => exact (keeps_enterSealing .flush (openFrameOf_opened hf).2).trans (keeps_finish _ _ _ _)
  · exact keeps_finish _ _ _ _

/-- A frame action that acts finds its frame in a state that is allowed. -/
theorem keeps_framePart {a : Action} {index : Byte} {allowed : FrameState → Bool} {g : FrameNo → State → State}
    (h : ∀ f, allowed (s.frame f).state = true → Keeps none s (g f s)) : Keeps none s (framePart a index allowed g s) :=
  .ite (fun hc => (h _ (Bool.and_eq_true_iff.1 hc).2).trans (keeps_finish _ _ _ _)) fun _ => keeps_finish _ _ _ _

theorem keeps_leaveSealQ (s : State) (f : FrameNo) : Keeps flux s (leaveSealQ f s) :=
  .of_packs rfl (fun ⟨hnodup, hsealed⟩ => ⟨hnodup.filter _, fun k hk => hsealed k (List.mem_of_mem_filter hk)⟩) id id

/-! ## Resets (R16, R17, R179, R181) -/

theorem keeps_resetRecord (s : State) (st : Stream) (r : OpenReq) : Keeps flux s (resetRecord st r s) := by
  unfold resetRecord
  split
  · exact keeps_answerRecord _ _ _ _ _
  · exact keeps_modRecord _ _ _ fun _ => rfl
  · exact keeps_passAnswer _ _ _ _ _
  · exact keeps_answerRecord _ _ _ _ _

theorem orphan_btag (o : Outstanding) : o.orphan.btag = o.btag := by
  unfold Outstanding.orphan; split <;> rfl

theorem keeps_resetPorts (s : State) : Keeps flux s (resetPorts s) := by
  refine .after (keeps_tags rfl rfl fun h => ?_)
    (.after (.foldl (fun t r => keeps_resetRecord t .read r) _ _) (.foldl (fun t r => keeps_resetRecord t .write r) _ _))
  simpa [Function.comp_def, orphan_btag] using h

/-- The lanes and frames after either reset. -/
theorem reset_lane (l : LaneNo) : (Vector.replicate 16 Lane.reset).get l = Lane.reset :=
  Vector.getElem_replicate l.isLt

theorem reset_frame (f : FrameNo) : (Vector.replicate 8 Frame.free).get f = Frame.free :=
  Vector.getElem_replicate f.isLt

theorem reset_classFrame (c : ClassNo) : (Vector.replicate 4 (none : Option FrameNo)).get c = none :=
  Vector.getElem_replicate c.isLt

/-- A state whose lanes, frames, class table, wait list and seal queue are those of a reset. -/
structure Cleared (t : State) : Prop where
  lane : ∀ l, t.lane l = Lane.reset
  frame : ∀ f, t.frame f = Frame.free
  classFrame : ∀ c, t.classFrame c = none
  waitList : t.waitList = []
  sealQ : t.sealQ = []

/-- A cleared state meets the invariants of lanes and frames. -/
theorem Cleared.sound (h : Cleared t) :
    SealQueueOk t ∧ SumsOk t ∧ ClassTableOk t ∧ LanesBut flux t ∧ ∀ l, (t.lane l).within := by
  refine ⟨⟨h.sealQ ▸ List.nodup_nil, ?_⟩, fun f => h.frame f ▸ frame_free_sumsOk, fun c f => ?_,
    ⟨h.waitList ▸ List.nodup_nil, fun l _ => ⟨?_, ?_⟩⟩, fun l => ?_⟩
  · rw [h.sealQ]; exact nofun
  · rw [h.classFrame, h.frame]
    exact iff_of_false nofun (by simp [Frame.free])
  · rw [h.lane]
    exact ⟨rfl, ⟨rfl, rfl, rfl, rfl⟩, rfl⟩
  · rw [h.lane, h.waitList]
    exact iff_of_false nofun fun ⟨_, hh, _⟩ => nomatch hh
  · rw [h.lane]
    exact ⟨Nat.zero_le _, Nat.zero_le _⟩

theorem cleared_resetBlocks (s : State) : Cleared (resetBlocks s) :=
  ⟨reset_lane, reset_frame, reset_classFrame, rfl, rfl⟩

theorem cleared_hardResetState (s : State) : Cleared (hardResetState s) :=
  ⟨reset_lane, reset_frame, reset_classFrame, rfl, rfl⟩

theorem keeps_resetBlocks (s : State) : Keeps none s (resetBlocks s) :=
  have ⟨hqueue, hsums, htable, hlanes, hwithin⟩ := (cleared_resetBlocks s).sound
  ⟨fun _ => hqueue, fun _ => hsums, fun _ => htable, id, fun ⟨hw, hr, _⟩ => ⟨hw, hr, hwithin⟩,
    fun _ => .inr ⟨rfl, rfl⟩, fun _ => hlanes⟩

theorem keeps_hardResetState (s : State) : Keeps none s (hardResetState s) := by
  have ⟨hqueue, hsums, htable, hlanes, hwithin⟩ := (cleared_hardResetState s).sound (flux := none)
  refine ⟨fun _ => hqueue, fun _ => hsums, fun _ => htable, fun ⟨_, _, htags⟩ => ⟨List.nodup_nil, List.nodup_nil, ?_⟩,
    fun _ => ⟨Nat.zero_le _, Nat.zero_le _, hwithin⟩, fun _ => nofun, fun _ => hlanes⟩
  simpa [hardResetState, Port.reset] using List.perm_append_comm.nodup_iff.1 htags

/-! ## Every command -/

theorem outcomeKeeps_plainBufferAnswer (s : State) (btag : Nat) (a : BufAnswer) :
    OutcomeKeeps s (execPlainBufferAnswer btag a s) := by
  refine outcomeKeeps_withData (outcomeKeeps_answeredRecord fun st r o => .ite (fun _ => ?_) fun _ => .refl)
  exact .after (keeps_tryClear _) (.after (keeps_answerRecord _ _ _ _ _) (keeps_dropOutstanding _ _))

theorem outcomeKeeps_bodyWriteOkay (s : State) (btag : Nat) : OutcomeKeeps s (execBodyWriteOkay btag s) := by
  unfold execBodyWriteOkay
  refine outcomeKeeps_answeredRecord fun st r o => ?_
  split
  · refine .ite (fun _ => .refl) fun _ => .after (keeps_tryStop _) (.after (keeps_settleBodyOkay _ _ _) ?_)
    exact .after (keeps_laneWriteOkay _ _) (.after (keeps_addBody _ _ _) (keeps_dropOutstanding _ _))
  · exact .refl

theorem outcomeKeeps_bodyWriteFault (s : State) (btag : Nat) : OutcomeKeeps s (execBodyWriteFault btag s) := by
  unfold execBodyWriteFault
  refine outcomeKeeps_answeredRecord fun st r o => ?_
  split
  · refine .ite (fun _ => .refl) fun _ => .after (keeps_tryStop _) (.after (keeps_settleBodyFault _ _) ?_)
    exact .after (keeps_modLane id fun _ h => ⟨shaped_outstanding_sub h _, Iff.rfl⟩)
      (.after (keeps_answerRecord _ _ _ _ _) (keeps_dropOutstanding _ _))
  · exact .refl

theorem outcomeKeeps_bodyReadAnswer (s : State) (btag : Nat) (a : BufAnswer) :
    OutcomeKeeps s (execBodyReadAnswer btag a s) := by
  refine outcomeKeeps_withData (outcomeKeeps_answeredRecord fun st r o => ?_)
  split
  · refine .ite (fun _ => .refl) fun _ => ?_
    split <;> exact .after (keeps_answerRecord _ _ _ _ _) (keeps_dropOutstanding _ _)
  · exact .refl

theorem outcomeKeeps_drainReadOkay (s : State) (btag : Nat) (data : List Byte) :
    OutcomeKeeps s (execDrainReadOkay btag data s) := by
  refine outcomeKeeps_withData (outcomeKeeps_answeredRecord fun st r o => ?_)
  split
  · refine .ite (fun _ => .refl) fun _ => .after (.ite (fun _ => keeps_countOkay _ _ _) fun _ => .refl) ?_
    exact .after (keeps_answerRecord _ _ _ _ _) (keeps_dropOutstanding _ _)
  · exact .refl

theorem outcomeKeeps_drainReadFault (s : State) (btag : Nat) : OutcomeKeeps s (execDrainReadFault btag s) := by
  unfold execDrainReadFault
  refine outcomeKeeps_answeredRecord fun st r o => ?_
  split
  · refine .ite (fun _ => .refl) fun _ => .after (.ite (fun _ => keeps_memberFault _ _) fun _ => .refl) ?_
    exact .after (keeps_answerRecord _ _ _ _ _) (keeps_dropOutstanding _ _)
  · exact .refl

theorem outcomeKeeps_fillBurstOkay (s : State) (btag : Nat) : OutcomeKeeps s (execFillBurstOkay btag s) := by
  unfold execFillBurstOkay
  refine outcomeKeeps_answered fun o => ?_
  split
  · refine outcomeKeeps_next (.after (keeps_tryCompleteJob _) (.after (keeps_countAnswered _) ?_))
    exact .after (keeps_addBurst _ _ _ _) (keeps_dropOutstanding _ _)
  · exact outcomeKeeps_next .refl

theorem outcomeKeeps_fillBurstFault (s : State) (btag : Nat) : OutcomeKeeps s (execFillBurstFault btag s) := by
  unfold execFillBurstFault
  refine outcomeKeeps_answered fun o => ?_
  split
  · refine outcomeKeeps_next (.after (keeps_tryCompleteJob _) (.after (keeps_countAnswered _) ?_))
    exact .after (keeps_setImageFault _ _) (keeps_dropOutstanding _ _)
  · exact outcomeKeeps_next .refl

theorem outcomeKeeps_passThrough (s : State) (btag : Nat) (a : BufAnswer) :
    OutcomeKeeps s (execPassThroughAfterCoreReset btag a s) := by
  refine outcomeKeeps_withData (outcomeKeeps_answeredRecord fun st r o => .ite (fun _ => ?_) fun _ => .refl)
  exact .after (keeps_tryClear _) (.after (keeps_passAnswer _ _ _ _ _) (keeps_dropOutstanding _ _))

theorem outcomeKeeps_lateAnswerDiscard (s : State) (btag : Nat) :
    OutcomeKeeps s (execLateAnswerDiscard btag s) := by
  unfold execLateAnswerDiscard
  split
  · exact outcomeKeeps_next (keeps_forgetLate _ _)
  · refine outcomeKeeps_answered fun o => ?_
    split
    · exact outcomeKeeps_next (.after (keeps_tryClear _) (keeps_dropOutstanding _ _))
    · exact outcomeKeeps_next .refl

/-- A link frame leaves every block but the link and its flag (R182). -/
theorem keeps_linkFrameDiscard (s : State) (bits : List Bool) : Keeps none s (csRises (sckPulses bits (csFalls s))) := by
  rw [sckPulses_selected _ _ (by simp [csFalls])]
  unfold csRises
  split <;> exact .inert rfl rfl

theorem outcomeKeeps_linkFrameDiscard (s : State) (bytes : List Byte) (bits : List Bool) :
    OutcomeKeeps s (execLinkFrameDiscard bytes bits s) :=
  outcomeKeeps_live (.ite (fun _ => keeps_linkFrameDiscard s (bitsOfBytes bytes ++ bits)) fun _ => .refl)

theorem keeps_tick (s : State) : Keeps none s (testAll { s with tick := s.tick + 1 }) := by
  refine .after (keeps_testAll _) ?_
  exact .inert rfl rfl

theorem outcomeKeeps_tickAdvance (s : State) : OutcomeKeeps s (execTickAdvance s) :=
  outcomeKeeps_live (f := fun s => testAll { s with tick := s.tick + 1 }) (keeps_tick s)

theorem keeps_popSealQ (s : State) : Keeps none s (popSealQ s) := by
  unfold popSealQ
  split
  · next f rest hqueue =>
    refine .of_packs rfl (fun ⟨hnodup, hsealed⟩ => ?_) id id
    rw [hqueue] at hnodup hsealed
    exact ⟨(List.nodup_cons.1 hnodup).2, fun k hk => hsealed k (List.mem_cons_of_mem _ hk)⟩
  · exact .inert rfl rfl

theorem outcomeKeeps_badItem (s : State) (r : LinkRequest) : OutcomeKeeps s (execBadItem r s) := by
  refine outcomeKeeps_next (.ite (fun _ => .refl) fun _ => ?_)
  show Keeps none s (match plainAnswer s r with
    | some (resp, data) => linkAnswer resp r.item r.index data s
    | none => s)
  split
  · exact keeps_linkAnswer _ _ _ _ _ _
  · exact .refl

theorem outcomeKeeps_indexSelect (s : State) (index : Byte) (data : Word) :
    OutcomeKeeps s (execIndexSelect index data s) :=
  outcomeKeeps_live (f := fun s => linkAnswer .ok 0x0E#8 index (Sys2Proof.Config.indexSelectData s.free) (selectEntry data s))
    (.inert rfl rfl)

theorem outcomeKeeps_attnCauseRead (s : State) (index : Byte) : OutcomeKeeps s (execAttnCauseRead index s) :=
  outcomeKeeps_live (f := fun s => linkAnswer .ok 0x04#8 index (word s.attn.weight) (clearOnRead s)) (.inert rfl rfl)

theorem outcomeKeeps_sealNextPop (s : State) : OutcomeKeeps s (execSealNextPop s) :=
  outcomeKeeps_live (f := fun s => linkAnswer .ok 0x0A#8 0 (readLastPop (popSealQ s).lastPop 1) (popSealQ s))
    ((keeps_popSealQ s).trans (keeps_linkAnswer _ _ _ _ _ _))

theorem outcomeKeeps_flushClass (s : State) (index : Byte) : OutcomeKeeps s (execFlushClass index s) :=
  outcomeKeeps_live (f := fun s => if 3 < index.toNat then linkAnswer .badItem 0x45#8 index 0 s
      else takeAction .flushClass index (flushPart (Fin.ofNat 4 index.toNat)) s)
    (.ite (fun _ => keeps_linkAnswer _ _ _ _ _ _) fun _ => keeps_takeAction fun _ => keeps_flushPart s _)

/-- Every command keeps every invariant. -/
theorem exec_keeps (c : Instr) (s : State) : OutcomeKeeps s (exec c s) := by
  cases c with
  | shapeCheckRefusal r =>
    cases r
    · exact outcomeKeeps_checked (keeps_portWrite fun _ _ _ => keeps_giveAnswer _ _ _ _ _ _)
    · exact outcomeKeeps_checked (keeps_portRead fun _ => keeps_giveAnswer _ _ _ _ _ _)
  | plainRequest r =>
    cases r
    · exact outcomeKeeps_checked (keeps_portWrite fun _ _ hroom => keeps_takeForwarded hroom _ _ _ _ _)
    · exact outcomeKeeps_checked (keeps_portRead fun hroom => keeps_takeForwarded hroom _ _ _ _ _)
  | frameRegionWrite src =>
    refine outcomeKeeps_checked ?_
    split
    · split
      · exact keeps_portWrite fun _ _ _ => keeps_giveAnswer _ _ _ _ _ _
      · exact .refl
    · exact .refl
  | announce src =>
    exact outcomeKeeps_checked (keeps_laneWrite fun _ off w _ hheld hroom => keeps_takeAnnounce hheld hroom off w)
  | controlAreaWrite src => exact outcomeKeeps_checked (keeps_laneWrite fun _ _ _ _ _ _ => keeps_refuseWrite _ _ _)
  | bodyWrite src =>
    exact outcomeKeeps_checked (keeps_laneWrite fun _ off w _ _ hroom => keeps_takeBodyWrite hroom off w)
  | statusRead r => exact outcomeKeeps_checked (keeps_laneRead fun _ _ _ => keeps_takeStatusRead _ _ _ _)
  | mixedRead r => exact outcomeKeeps_checked (keeps_laneRead fun _ _ _ => keeps_giveAnswer _ _ _ _ _ _)
  | bodyRead r => exact outcomeKeeps_checked (keeps_laneRead fun _ _ hroom => keeps_takeBodyRead _ hroom _)
  | frameRegionRead r =>
    refine outcomeKeeps_checked ?_
    split
    · exact .ite (fun hroom => keeps_frameRead _ _ _ hroom) fun _ => .refl
    · exact .refl
  | arbiterGrant => exact outcomeKeeps_live (keeps_grant s)
  | plainBufferAnswer btag a => exact outcomeKeeps_plainBufferAnswer s btag a
  | bodyWriteOkay btag => exact outcomeKeeps_bodyWriteOkay s btag
  | bodyWriteFault btag => exact outcomeKeeps_bodyWriteFault s btag
  | bodyReadAnswer btag a => exact outcomeKeeps_bodyReadAnswer s btag a
  | drainReadOkay btag data => exact outcomeKeeps_drainReadOkay s btag data
  | drainReadFault btag => exact outcomeKeeps_drainReadFault s btag
  | fillBurstOkay btag => exact outcomeKeeps_fillBurstOkay s btag
  | fillBurstFault btag => exact outcomeKeeps_fillBurstFault s btag
  | passThroughAfterCoreReset btag a => exact outcomeKeeps_passThrough s btag a
  | lateAnswerDiscard btag => exact outcomeKeeps_lateAnswerDiscard s btag
  | fillJobComplete => exact outcomeKeeps_live (keeps_tryCompleteJob s)
  | fileCompletion l =>
    exact outcomeKeeps_live (.ite (fun _ => (keeps_tryComplete s l).trans (keeps_tryStop _)) fun _ => .refl)
  | voidEnd l =>
    refine outcomeKeeps_live (.ite (fun h => (keeps_endVoid ?_).trans (keeps_tryStop _)) fun _ => .refl)
    simp only [voidMayEnd, Bool.and_eq_true, beq_iff_eq] at h
    exact h.1.1
  | heldAnnounceRetry l => exact outcomeKeeps_live (.ite (fun _ => keeps_retryJobLimit s l) fun _ => .refl)
  | sealReady f => exact outcomeKeeps_live (keeps_examine s f)
  | drainEvaluation f => exact outcomeKeeps_live (keeps_tryEvaluate s f)
  | freePulse => exact outcomeKeeps_live (.ite (fun _ => .inert rfl rfl) fun _ => .refl)
  | tickAdvance => exact outcomeKeeps_tickAdvance s
  | ageExpiry f => exact outcomeKeeps_live (.ite (fun _ => keeps_requestSeal s f _) fun _ => .refl)
  | laneTimerExpiry l =>
    refine outcomeKeeps_live (.ite (fun h => .after (keeps_tryStop _) (.after (keeps_tryVoidEnd _ _) ?_)) fun _ => .refl)
    exact keeps_beginVoid .timeout (eq_of_beq (Bool.and_eq_true_iff.1 h).1)
  | holdTimeoutExpiry l => exact outcomeKeeps_live (.ite (fun _ => keeps_refuseHeld s l _) fun _ => .refl)
  | drainTimeoutExpiry f =>
    refine outcomeKeeps_live (.ite (fun h => ?_) fun _ => .refl)
    have hstate : (s.frame f).state = .draining := eq_of_beq (Bool.and_eq_true_iff.1 h).1
    have hframe : (clearMarks f s).frame f = s.frame f := rfl
    exact (keeps_clearMarks s f).trans (keeps_backToSealed (by simp [hframe, hstate]))
  | stopComplete => exact outcomeKeeps_live (keeps_tryStop s)
  | coreClear => exact outcomeKeeps_live (keeps_tryClear s)
  | linkFrameDiscard bytes bits => exact outcomeKeeps_linkFrameDiscard s bytes bits
  | badItem r => exact outcomeKeeps_badItem s r
  | configItemWrite item index data => exact outcomeKeeps_live (keeps_writeItem s _ _ _)
  | timerLimitWrite item index data => exact outcomeKeeps_live (keeps_writeItem s _ _ _)
  | attnMaskWrite index data => exact outcomeKeeps_live (keeps_writeItem s _ _ _)
  | indexSelect index data => exact outcomeKeeps_indexSelect s index data
  | attnCauseRead index => exact outcomeKeeps_attnCauseRead s index
  | sealNextPop => exact outcomeKeeps_sealNextPop s
  | start index =>
    exact outcomeKeeps_live (keeps_takeAction fun h => keeps_startPart (idle_of_admits (.inl rfl) h))
  | stop index => exact outcomeKeeps_live (keeps_takeAction fun _ => keeps_stopPart s)
  | halt index => exact outcomeKeeps_live (keeps_takeAction fun _ => keeps_haltPart s)
  | enterConfig index =>
    exact outcomeKeeps_live (keeps_takeAction fun h => keeps_enterConfigPart (idle_of_admits (.inr rfl) h))
  | resetCore index =>
    refine outcomeKeeps_live (keeps_takeAction fun _ => .after (keeps_tryClear _) ?_)
    exact (keeps_resetPorts s).trans (keeps_resetBlocks _)
  | flushClass index => exact outcomeKeeps_flushClass s index
  | release index =>
    refine outcomeKeeps_live (keeps_takeAction fun _ => keeps_framePart fun f hstate => ?_)
    have hdrained : (s.frame f).state = .drained := eq_of_beq hstate
    exact keeps_freeFrame (by simp [hdrained]) (not_mem_sealQ (by simp [hdrained]))
  | discard index =>
    refine outcomeKeeps_live (keeps_takeAction fun _ => keeps_framePart fun f hstate => ?_)
    refine (keeps_leaveSealQ s f).trans (keeps_freeFrame (s := leaveSealQ f s) ?_ fun _ => by simp [leaveSealQ])
    intro hopen
    have hframe : (s.frame f).state = .opened := hopen
    simp [hframe] at hstate
  | redrain index =>
    refine outcomeKeeps_live (keeps_takeAction fun _ => keeps_framePart fun f hstate => ?_)
    have hheld : (s.frame f).state = .held := eq_of_beq hstate
    exact keeps_backToSealed (by simp [hheld])
  | resetAssert => exact outcomeKeeps_next (.inert rfl rfl)
  | hardReset => exact outcomeKeeps_next (keeps_hardResetState s)

/-- A step keeps every invariant that its command keeps: the queue of commands is no part of any. -/
theorem step_keeps (h : step s = .next t) : Keeps none s t := by
  unfold step at h
  split at h
  · cases h
    exact .refl
  · next c rest _ => exact .after (exec_keeps c _ t h) (.inert rfl rfl)

/-- Settles O55: one of the invariants that every command keeps. -/
theorem sealQueueKept : Obligations.SealQueueKept := fun _ _ hs hstep => (step_keeps hstep).sealQueue hs

/-- Settles O56: a lane in flux within a command is settled again at its end. -/
theorem lanesKept : Obligations.LanesKept := fun s t hs hstep =>
  (lanesBut_none_iff t).1 ((step_keeps hstep).lanes ((lanesBut_none_iff s).2 hs))

/-- Settles O57: sums are sums of residues. -/
theorem sumsKept : Obligations.SumsKept := fun _ _ hs hstep => (step_keeps hstep).sums hs

/-- Settles O58: a frame leaves OPEN with its class's entry, and opens only for a class without one. -/
theorem classTableKept : Obligations.ClassTableKept := fun _ _ hs hstep => (step_keeps hstep).classTable hs

/-- Settles O59: new records and tags take fresh numbers, and lists grow only while they have room. -/
theorem numbersKept : Obligations.NumbersKept := fun _ _ hstep =>
  ⟨(step_keeps hstep).numbers, (step_keeps hstep).places, (step_keeps hstep).run⟩

end Sys2Proof.Machine
end

section
/-! PROOFS. The queue of commands, the address classes, and the requests and answers that pass the ports: the settled
statements StepTakesFront, RoutePlacesAddresses (R5, R6), PlainRequestForwarded (R10, R14), PlainBufferAnswerPassed (R13),
PortRefusals (R7), ArbiterGrants (R9, R12, R113) and AnswersAfterResets (R16, R17, R121). -/

namespace Sys2Proof.Machine

open Sys2Proof.Config

variable {s : State}

/-- Settles O1: the definition of a step. -/
theorem stepTakesFront : Obligations.StepTakesFront := fun c rest s hpending => by
  unfold step
  rw [hpending]

/-! ## Address classes (R5, R6, R7) -/

/-- In CONFIG every request is plain (R6). -/
theorem route_config (h : s.run.global = .config) (a : Addr) (n : Nat) : route s a n = .plain := by simp [route, h]

/-- Outside CONFIG a request that passes the shape check has the class of its first byte (R6). -/
theorem route_shaped (h : s.run.global ≠ .config) {a : Addr} {n : Nat} (hshape : shapeFails a n = false) :
    route s a n = classByFirstByte s a := by simp [route, h, hshape]

/-- Outside CONFIG a request that fails the shape check is refused when it touches a region (R7). -/
theorem route_misshaped (h : s.run.global ≠ .config) {a : Addr} {n : Nat} (hshape : shapeFails a n = true) :
    route s a n = if touchesRegions s a n then .refusedShape else .plain := by simp [route, h, hshape]

/-- The class of a plain request (R5, R6, R7). -/
theorem route_plain {a : Addr} {n : Nat} (h : PlainClass s a n) : route s a n = .plain := by
  by_cases hconfig : s.run.global = .config
  · exact route_config hconfig a n
  rcases h with h | ⟨hshape, haperture, hframe⟩ | ⟨hshape, htouches⟩
  · exact absurd h hconfig
  · simp [route_shaped hconfig hshape, classByFirstByte, haperture, hframe]
  · simp [route_misshaped hconfig hshape, htouches]

/-- A place `k` blocks of size `n` and `off` further on lies in block `k` of `m`. -/
theorem block_of_place {m k n off d : Nat} (hk : k < m) (hoff : off < n) (hd : d = k * n + off) :
    d < m * n ∧ d / n = k ∧ d % n = off := by
  have hblock : (k + 1) * n ≤ m * n := Nat.mul_le_mul_right n hk
  have hn : 0 < n := by omega
  subst hd
  refine ⟨by rw [Nat.add_mul] at hblock; omega, ?_, ?_⟩
  · rw [Nat.mul_comm, Nat.mul_add_div hn, Nat.div_eq_of_lt hoff, Nat.add_zero]
  · rw [Nat.mul_comm, Nat.mul_add_mod, Nat.mod_eq_of_lt hoff]

/-- Settles O2: the class of the first byte, and its block and offset there. -/
theorem routePlacesAddresses : Obligations.RoutePlacesAddresses := by
  intro s a n
  refine ⟨fun hconfig => route_config hconfig a n, fun hconfig hshape => ?_⟩
  rw [route_shaped hconfig hshape]
  refine ⟨fun l off hoff hplace => ?aperture, fun hpast => ⟨fun f off hoff hf hplace => ?frame, fun hbeyond => ?plain⟩⟩
  case aperture =>
    obtain ⟨hin, hdiv, hmod⟩ := block_of_place l.isLt hoff hplace
    simp [classByFirstByte, inAperture, -BitVec.toNat_sub, hin, hdiv, hmod]
  case frame =>
    obtain ⟨hin, hdiv, hmod⟩ := block_of_place hf hoff hplace
    simp [classByFirstByte, inAperture, inFrameRegion, -BitVec.toNat_sub, Nat.not_lt.2 hpast, hin, hdiv, hmod]
  case plain => 
    simp [classByFirstByte, inAperture, inFrameRegion, -BitVec.toNat_sub, Nat.not_lt.2 hpast, Nat.not_lt.2 hbeyond]

/-! ## Requests that the port takes (R2, R3) -/

/-- The port takes a write of its class for which the list has room. -/
theorem portWrite_taken {src : WriteSource} {w : WriteReq} {rt : Route} (k : WriteReq → State → State)
    (hsrc : writeAt s src = some w) (hroute : routeWrite s w = rt) (hroom : s.port.writes.length < listCapacity) :
    portWrite rt src k s = k w (afterLeaving src s) := by
  simp [portWrite, (sourceWrite_eq s src).trans hsrc, hroute, State.hasRoom, State.records, hroom, leaveFabric_eq]

/-- The port takes a read of its class for which the list has room. -/
theorem portRead_taken {r : ReadReq} {rt : Route} (k : State → State) (hroute : routeRead s r = rt)
    (hroom : s.port.reads.length < listCapacity) : portRead rt r k s = k s := by
  simp [portRead, hroute, State.hasRoom, State.records, hroom]

/-- The model's two names of a request forwarded agree. -/
theorem takeForwarded_eq (s : State) (st : Stream) (tag : Nat) (cls : ReqClass) (origin : ReqOrigin) (beats : Nat)
    (req : BufReq) : takeForwarded st tag cls origin beats req s = forwarding st tag cls origin beats req s := by
  cases st <;> rfl

/-- Settles O3: a plain request is forwarded by the port that takes it. -/
theorem plainRequestForwarded : Obligations.PlainRequestForwarded := by
  intro s hlive
  refine ⟨fun src w hwf hsrc hplain hroom => ?write, fun r hwf hplain hroom => ?read⟩
  case write =>
    calc exec (.plainRequest (.write src)) s
        = .next (portWrite .plain src (fun w => takeForwarded .write w.tag .plain .plain (w.bytes.length / 8)
            { addr := w.addr, body := .write w.bytes }) s) := checked_next s hlive hwf
      _ = _ := by rw [portWrite_taken _ hsrc (route_plain hplain) hroom, takeForwarded_eq]
  case read =>
    calc exec (.plainRequest (.read r)) s
        = .next (portRead .plain r (takeForwarded .read r.tag .plain .plain r.beats
            { addr := r.addr, body := .read r.beats }) s) := checked_next s hlive hwf
      _ = _ := by rw [portRead_taken _ (route_plain hplain) hroom, takeForwarded_eq]

/-- Settles O5: each refusal is the answer of the port that takes the request. -/
theorem portRefusals : Obligations.PortRefusals := by
  intro s hlive hconfig
  refine ⟨fun src w hwf hsrc hroom hshape htouches => ?write, fun r hwf hroom hshape htouches => ?read,
    fun src w f off hwf hsrc hroom hroute => ?frame⟩
  case write =>
    have hroute : routeWrite s w = .refusedShape := by rw [routeWrite, route_misshaped hconfig hshape, if_pos htouches]
    calc exec (.shapeCheckRefusal (.write src)) s
        = .next (portWrite .refusedShape src (fun w => giveAnswer .write w.tag .refused []) s) := checked_next s hlive hwf
      _ = _ := by rw [portWrite_taken _ hsrc hroute hroom, giveAnswer_eq]
  case read =>
    have hroute : routeRead s r = .refusedShape := by rw [routeRead, route_misshaped hconfig hshape, if_pos htouches]
    calc exec (.shapeCheckRefusal (.read r)) s
        = .next (portRead .refusedShape r (giveAnswer .read r.tag .refused (zeroBeats r.beats)) s) :=
          checked_next s hlive hwf
      _ = _ := by rw [portRead_taken _ hroute hroom, giveAnswer_eq]; rfl
  case frame =>
    have hexec : exec (.frameRegionWrite src) s = execFrameRegionWrite src s := rfl
    rw [hexec, execFrameRegionWrite, checked_next s hlive hwf]
    simp only [(sourceWrite_eq s src).trans hsrc, hroute]
    rw [portWrite_taken _ hsrc hroute hroom, giveAnswer_eq]

/-! ## Buffer answers passed on (R13, R16) -/

/-- Nothing waits for a core reset while none runs (R180). -/
theorem tryClear_idle (h : s.run.running ≠ some .resetCore) : tryClear s = s := by
  simp [tryClear, coreIsClear, h]

/-- Settles O4: the record is settled, and no core reset ends with it. -/
theorem plainBufferAnswerPassed : Obligations.PlainBufferAnswerPassed := by
  intro s btag st r a hanswers horigin hrunning
  obtain ⟨o, -, hhanded⟩ := answeredRecord_answers hanswers (given := some a.data) (fun d hd => (Option.mem_some.1 hd).symm)
  obtain ⟨-, -, -, -, hrecord, hwf, -⟩ := hanswers
  have hexec : exec (.plainBufferAnswer btag a) s = execPlainBufferAnswer btag a s := rfl
  rw [hexec, execPlainBufferAnswer, withData, if_pos hwf, hhanded, if_pos (by simp [horigin]),
    answerRecord_dropOutstanding hrecord,
    tryClear_idle (s := settling btag st r (bufResp a.code) a.data s) hrunning]
  cases a.code <;> rfl

/-- The meaning of CORE_CLEAR. -/
theorem exec_coreClear_live (hlive : s.resetLow = false) : exec .coreClear s = .next (tryClear s) := live_next s hlive

/-- Settles O8: an answer passed on settles its record; every discard forgets its tag, and may be the last that a core reset
waits for. -/
theorem answersAfterResets : Obligations.AnswersAfterResets := by
  intro s btag
  refine ⟨fun st r a hanswers hreset => ?passed, fun hlive hlate => ?late, fun o hlive hlate hout horigin => ?dropped⟩
  case passed =>
    obtain ⟨o, -, hhanded⟩ :=
      answeredRecord_answers hanswers (given := some a.data) (fun d hd => (Option.mem_some.1 hd).symm)
    obtain ⟨-, hlive, -, -, hrecord, hwf, -⟩ := hanswers
    have hexec : exec (.passThroughAfterCoreReset btag a) s = execPassThroughAfterCoreReset btag a s := rfl
    refine ⟨_, freeBytes s.free (missingBytes st r a.data), ?_, ?_, exec_coreClear_live hlive⟩
    · rw [hexec, execPassThroughAfterCoreReset, withData, if_pos hwf, hhanded, if_pos hreset, passAnswer]
      have hkept : { dropOutstanding btag s with free := s.free + missingBytes st r a.data }.findRecord st r.slot = some r := by
        cases st <;> exact hrecord
      have hlength : (freeBytes s.free (missingBytes st r a.data)).length = missingBytes st r a.data := by simp [freeBytes]
      have hsettled : answerRecord st r.slot (bufResp a.code) (a.data ++ freeBytes s.free (missingBytes st r a.data))
          { dropOutstanding btag s with free := s.free + missingBytes st r a.data } =
          { settling btag st r (bufResp a.code) (a.data ++ freeBytes s.free (missingBytes st r a.data)) s with
            free := s.free + missingBytes st r a.data } := by
        rw [answerRecord_found _ hkept]
        cases st <;> rfl
      rw [hlength]
      exact (congrArg (fun t => Host.Outcome.next (tryClear t)) hsettled).trans (by cases a.code <;> rfl)
    · cases st <;> simp [freeBytes, missingBytes]
  case late =>
    have hexec : exec (.lateAnswerDiscard btag) s = execLateAnswerDiscard btag s := rfl
    rw [hexec, execLateAnswerDiscard, if_pos (by simp [hlive, hlate])]
    rfl
  case dropped =>
    have hexec : exec (.lateAnswerDiscard btag) s = execLateAnswerDiscard btag s := rfl
    have hdone : execLateAnswerDiscard btag s = .next (tryClear (dropOutstanding btag s)) := by
      rw [execLateAnswerDiscard, if_neg (by simp [hlate])]
      simp only [answered, hlive, Bool.false_eq_true, if_false, hout, horigin, beq_self_eq_true, if_true]
    exact ⟨_, hexec.trans hdone, exec_coreClear_live hlive⟩

/-! ## The buffer arbiter (R9, R12, R113, R118) -/

/-- The current job is the head of the queue, while its progress stands (R109). -/
theorem currentJob_cons {j : Job} {later : List Job} {p : Progress} (hqueue : s.fill.queue = j :: later)
    (hprogress : s.fill.progress = some p) : s.currentJob = some (j, p) := by
  simp [State.currentJob, hqueue, hprogress]

/-- The fill side is ready while a byte is not offered, and a trailer's byte only after every answer before it (R113, R118). -/
theorem fillReady_iff {j : Job} {later : List Job} {p : Progress} (hqueue : s.fill.queue = j :: later)
    (hprogress : s.fill.progress = some p) :
    fillReady s = true ↔ p.next < j.stop ∧ (j.kind = .directory → j.stop - 64 ≤ p.next → p.answered = p.issued) := by
  simp only [fillReady, currentJob_cons hqueue hprogress, Job.heldBack, Job.trailerStart, Bool.and_eq_true,
    Bool.not_eq_true', Bool.and_eq_false_iff, decide_eq_true_eq, beq_eq_false_iff_ne,
    bne_eq_false_iff_eq]
  grind

/-- The meaning of ARBITER_GRANT when the pass-through side wins (R12). -/
theorem grant_pass {e : PassEntry} {rest : List PassEntry} (hqueue : s.port.passQ = e :: rest)
    (hwins : fillReady s = false ∨ s.port.lastGrant = .fill) : grant s = grantPass s := by
  have hready : passReady s = true := by simp [passReady, hqueue]
  rcases hwins with hfill | hlast
  · simp [grant, hready, hfill]
  · cases hfill : fillReady s <;> simp [grant, hready, hfill, hlast]

/-- The meaning of ARBITER_GRANT when the fill side wins (R12). -/
theorem grant_fill (hfill : fillReady s = true) (hwins : s.port.passQ = [] ∨ s.port.lastGrant = .passThrough) :
    grant s = grantFill s := by
  rcases hwins with hqueue | hlast
  · simp [grant, passReady, hqueue, hfill]
  · cases hpass : passReady s <;> simp [grant, hpass, hfill, hlast]

/-- Settles O6: the arbiter by the side that wins, and the model's tag by its freshness. -/
theorem arbiterGrants : Obligations.ArbiterGrants := by
  intro s hlive
  have hexec : exec .arbiterGrant s = .next (grant s) := live_next s hlive
  have hfresh : s.freshBtag ∉ s.port.outstanding.map (·.btag) ++ s.port.late := freshBtag_not_mem s
  rw [List.mem_append, not_or] at hfresh
  refine ⟨fun hqueue hfill => ?idle, fun e rest hqueue hwins => ?pass, fun j later p hqueue hprogress hfill hwins => ?fill,
    fun j later p hqueue hprogress => fillReady_iff hqueue hprogress, fun hnone => ?noJob,
    fun o ho heq => hfresh.1 (List.mem_map.2 ⟨o, ho, heq⟩), hfresh.2⟩
  case idle => rw [hexec]; simp [grant, passReady, hqueue, hfill]
  case pass => rw [hexec, grant_pass hqueue hwins, grantPass, hqueue]; rfl
  case fill => rw [hexec, grant_fill hfill hwins, grantFill, currentJob_cons hqueue hprogress]; rfl
  case noJob =>
    have hcurrent : s.currentJob = none := by
      rcases hnone with hqueue | hprogress
      · simp [State.currentJob, hqueue]
      · cases hqueue : s.fill.queue <;> simp [State.currentJob, hqueue, hprogress]
    simp [fillReady, hcurrent]

end Sys2Proof.Machine
end

section
/-! PROOFS. What a lane does with the requests it takes: the settled statements AnnounceTests (R24), BodyReadsServed (R23,
R72), BodyReadAnswered (R72), BodyWriteForwarded (R63, R69) and BodyWriteNotForwarded (R3, R20, R22). -/

namespace Sys2Proof.Machine

open Sys2Proof.Config

variable {s : State}

/-! ## The four tests of an announce (R24) -/

/-- The tests of R24 in their order, each in the words of the rule. -/
theorem validateAnnounce_eq (s : State) (a : RawAnnounce) :
    validateAnnounce s a =
      if ¬ (a.marker = announceMarker ∧ a.version = announceVersion) then some .refusedMalformed
      else if ¬ s.run.global = .running then some .refusedStopping
      else if ¬ (a.cls.toNat ≤ 3 ∧ s.items.classEnable.getLsbD a.cls.toNat = true) then some .refusedClass
      else if ¬ (a.len.toNat < 2 ^ 40 ∧ 4096 + (64 + a.len.toNat + 511) / 512 * 512 + 512 ≤ frameSize s) then
        some .refusedOversize
      else none := by
  have hsize : packHeadBytes + recordSize a.len.toNat + granule = 4096 + (64 + a.len.toNat + 511) / 512 * 512 + 512 := rfl
  have hover : oversize s a.len.toNat = true ↔
      ¬ (a.len.toNat < 2 ^ 40 ∧ 4096 + (64 + a.len.toNat + 511) / 512 * 512 + 512 ≤ frameSize s) := by
    simp only [oversize, hsize, Bool.or_eq_true, decide_eq_true_eq]
    omega
  have hmarker : (a.marker != announceMarker || a.version != announceVersion) = true ↔
      ¬ (a.marker = announceMarker ∧ a.version = announceVersion) := by
    simp only [Bool.or_eq_true, bne_iff_ne]
    exact not_and_or.symm
  have hclass : (decide (3 < a.cls.toNat) || !s.items.classEnable.getLsbD a.cls.toNat) = true ↔
      ¬ (a.cls.toNat ≤ 3 ∧ s.items.classEnable.getLsbD a.cls.toNat = true) := by
    simp only [Bool.or_eq_true, decide_eq_true_eq, Bool.not_eq_true', not_and_or, Nat.not_le, Bool.not_eq_true]
  simp only [validateAnnounce, hmarker, hclass, hover, bne_iff_ne, ne_eq]

/-- Settles O10: the tests in their order. -/
theorem announceTests : Obligations.AnnounceTests := by
  intro s a t1 t2 t3 t4
  have htests : validateAnnounce s a = if ¬ t1 then some .refusedMalformed else if ¬ t2 then some .refusedStopping
      else if ¬ t3 then some .refusedClass else if ¬ t4 then some .refusedOversize else none := validateAnnounce_eq s a
  refine ⟨?_, fun h => ?_, fun h k => ?_, fun h k m => ?_, fun h k m n => ?_⟩
  case refine_1 =>
    rw [htests]
    split_ifs with h k m n <;> simp_all
  all_goals rw [htests]; simp_all

/-! ## Once a write has left the fabric (R3) -/

@[simp] theorem afterLeaving_lane (src : WriteSource) (l : LaneNo) : (afterLeaving src s).lane l = s.lane l := by
  cases src <;> rfl

@[simp] theorem afterLeaving_frame (src : WriteSource) (f : FrameNo) : (afterLeaving src s).frame f = s.frame f := by
  cases src <;> rfl

@[simp] theorem afterLeaving_entry (src : WriteSource) (f : FrameNo) (e : Nat) :
    (afterLeaving src s).entry? f e = s.entry? f e := by
  cases src <;> rfl

@[simp] theorem afterLeaving_resetLow (src : WriteSource) : (afterLeaving src s).resetLow = s.resetLow := by
  cases src <;> rfl

@[simp] theorem afterLeaving_run (src : WriteSource) : (afterLeaving src s).run = s.run := by cases src <;> rfl

@[simp] theorem afterLeaving_fill (src : WriteSource) : (afterLeaving src s).fill = s.fill := by cases src <;> rfl

/-- The tests of an announce look at the items and the global state alone (R24). -/
@[simp] theorem afterLeaving_validate (src : WriteSource) (a : RawAnnounce) :
    validateAnnounce (afterLeaving src s) a = validateAnnounce s a := by
  cases src <;> rfl

/-! ## The current file of a lane (R18) -/

/-- The current file, by the lane's reference and its entry. -/
theorem currentFile_some {l : LaneNo} {f : FrameNo} {e : Nat} {en : Entry} (hfile : (s.lane l).file = some (f, e))
    (hentry : s.entry? f e = some en) : s.currentFile l = some (f, e, en) := by
  simp [State.currentFile, hfile, hentry]

/-- Updates that agree on the entry that stands there are the same update. -/
theorem modEntry_congr {f : FrameNo} {e : Nat} {en : Entry} {g h : Entry → Entry} (hentry : s.entry? f e = some en)
    (hgh : g en = h en) : modEntry f e g s = modEntry f e h s := by
  refine modFrame_congr s f ?_
  have hmodify : (s.frame f).entries.modify e g = (s.frame f).entries.modify e h := by
    refine List.ext_getElem? fun i => ?_
    rw [List.getElem?_modify, List.getElem?_modify]
    by_cases hi : e = i
    · subst hi
      have : (s.frame f).entries[e]? = some en := hentry
      simp [this, hgh]
    · simp [hi]
  rw [hmodify]

/-! ## Reads of an aperture (R23, R72) -/

/-- A read past the control area's end that begins in it is mixed (R23). -/
theorem laneReadKind_mixed {off n : Nat} (hoff : off < 64) (hend : 64 < off + n) : laneReadKind off n = .mixed := by
  simp [laneReadKind, Nat.not_le.2 hend, hoff]

/-- A read from offset 64 on is a body read (R23). -/
theorem laneReadKind_body {off n : Nat} (hoff : 64 ≤ off) (hn : 0 < n) : laneReadKind off n = .body := by
  simp [laneReadKind, show ¬ off + n ≤ 64 by omega, Nat.not_lt.2 hoff]

/-- A well-formed read has a beat (R1). -/
theorem beats_pos {r : ReadReq} (h : r.wf = true) : 0 < r.beats := by
  simp only [ReadReq.wf, Bool.and_eq_true, decide_eq_true_eq] at h
  exact h.1

/-- The meaning of BODY_READ when the lane takes the read (R72). -/
theorem exec_bodyRead_taken {r : ReadReq} {l : LaneNo} {off : Nat} (h : LaneTakesRead s r l off) (hoff : 64 ≤ off) :
    exec (.bodyRead r) s = .next (takeBodyRead r l off s) := by
  have ⟨hlive, hwf, _⟩ := h
  have hbeats := beats_pos hwf
  calc exec (.bodyRead r) s
      = .next (laneRead .body r (takeBodyRead r) s) := checked_next s hlive hwf
    _ = _ := by rw [laneRead_taken _ h (laneReadKind_body hoff (by omega))]

/-- No beat is kept at or past the body's end (R72). -/
theorem keptBeats_past {len k : Nat} (h : len ≤ k) (n : Nat) : keptBeats len k n = 0 := by
  simp [keptBeats, Nat.not_lt.2 h]

/-- The beats of a read that are kept below the body's end (R72). -/
theorem keptBeats_below {len k : Nat} (h : k < len) (beats : Nat) :
    keptBeats len k (8 * beats) = min beats ((len - k + 7) / 8) := by
  simp [keptBeats, h]

/-- Settles O17: the kind of the read and the lane's state say what it does; a body read is mapped by the beats it keeps. -/
theorem bodyReadsServed : Obligations.BodyReadsServed := by
  intro s r l off htakes
  have ⟨hlive, hwf, _⟩ := htakes
  refine ⟨fun hoff hend => ?mixed, fun hoff hstate => ?refused, fun hoff hstate f e en hfile hentry => ?mapped⟩
  case mixed =>
    calc exec (.mixedRead r) s
        = .next (laneRead .mixed r (fun _ _ => giveAnswer .read r.tag .refused (zeroBeats r.beats)) s) :=
          checked_next s hlive hwf
      _ = _ := by rw [laneRead_taken _ htakes (laneReadKind_mixed hoff hend), giveAnswer_eq]; rfl
  case refused =>
    rw [exec_bodyRead_taken htakes hoff, takeBodyRead]
    rcases hstate with h | h | h <;> rw [h] <;> rfl
  case mapped =>
    have htaken : takeBodyRead r l off s = mapBodyRead r l (off - 64) f en s := by
      rw [takeBodyRead]
      rcases hstate with h | h <;> rw [h] <;> simp only [currentFile_some hfile hentry]
    have hbeats := beats_pos hwf
    rw [exec_bodyRead_taken htakes hoff, htaken, mapBodyRead]
    refine ⟨fun hpast => ?_, fun hbelow => ?_⟩
    · rw [if_pos (keptBeats_past hpast _)]
      rfl
    · rw [keptBeats_below hbelow, if_neg (by omega), takeForwarded_eq]
      rfl

/-! ## The answer to a body read (R72) -/

@[simp] theorem clampData_length (len k n : Nat) (data : List Byte) : (clampData len k n data).length = n := by
  induction n generalizing k data with
  | zero => cases data <;> rfl
  | succ n ih => cases data <;> simp [clampData, ih]

/-- Each byte of a clamped answer: the controller's below the length, zero from there on and past its data (R72). -/
theorem getElem?_clampData (len k n : Nat) (data : List Byte) {j : Nat} (hj : j < n) :
    (clampData len k n data)[j]? = some (if k + j < len then (data[j]?).getD 0 else 0) := by
  induction n generalizing k data j with
  | zero => omega
  | succ n ih =>
    cases data with
    | nil =>
      cases j with
      | zero => simp [clampData]
      | succ i => simpa [clampData, Nat.add_assoc, Nat.add_comm 1] using ih (k + 1) [] (Nat.lt_of_succ_lt_succ hj)
    | cons b bs =>
      cases j with
      | zero => simp [clampData]
      | succ i =>
        simpa [clampData, Nat.add_assoc, Nat.add_comm 1] using ih (k + 1) bs (Nat.lt_of_succ_lt_succ hj)

/-- Settles O26: the answer settles the record with the clamped data or with zero beats. -/
theorem bodyReadAnswered : Obligations.BodyReadAnswered := by
  intro s btag r a i hanswers horigin hreset
  obtain ⟨o, -, hhanded⟩ := answeredRecord_answers hanswers (given := some a.data) (fun d hd => (Option.mem_some.1 hd).symm)
  obtain ⟨-, -, -, -, hrecord, hwf, -⟩ := hanswers
  have hexec : exec (.bodyReadAnswer btag a) s = execBodyReadAnswer btag a s := rfl
  rw [hexec, execBodyReadAnswer, withData, if_pos hwf, hhanded]
  simp only [horigin, hreset, Bool.false_eq_true, if_false, answerRecord_dropOutstanding hrecord]
  refine ⟨fun hcode => ⟨clampData i.len i.k (8 * r.beats) a.data, ?_, clampData_length .., fun j hj => getElem?_clampData _ _ _ _ hj⟩,
    fun hcode => ?_⟩
  · rw [hcode]
  · rw [hcode]
    rfl

/-! ## Body writes (R22, R63, R64) -/

/-- A write from offset 64 on is a body write (R20). -/
theorem laneWriteKind_body {off : Nat} (hoff : 64 ≤ off) (bytes : List (Option Byte)) : laneWriteKind off bytes = .body := by
  simp [laneWriteKind, show off ≠ 0 by omega, Nat.not_lt.2 hoff]

/-- The meaning of BODY_WRITE when the lane takes the write (R22). -/
theorem exec_bodyWrite_taken {src : WriteSource} {l : LaneNo} {off : Nat} {w : WriteReq}
    (h : LaneTakesWrite s src l off w) (hoff : 64 ≤ off) :
    exec (.bodyWrite src) s = .next (takeBodyWrite l off w (afterLeaving src s)) := by
  have ⟨hlive, hwf, _⟩ := h
  calc exec (.bodyWrite src) s
      = .next (laneWrite .body src takeBodyWrite s) := checked_next s hlive hwf
    _ = _ := by rw [laneWrite_taken _ h (laneWriteKind_body hoff _)]

/-- A RECEIVING lane plans a body write (R64). -/
theorem takeBodyWrite_receiving {l : LaneNo} (off : Nat) (w : WriteReq) (hstate : (s.lane l).state = .receiving) :
    takeBodyWrite l off w s = receiveBodyWrite l off w s := by
  simp only [takeBodyWrite, hstate]

/-- An entry that is PLACED or VOIDING is pending. -/
theorem pending_of_open {en : Entry} (h : en.state = .placed ∨ en.state = .voiding) : en.pending = true := by
  simpa [Entry.pending] using h

/-- Settles O20: the plan forwards the write; the entry that receives it is pending. -/
theorem bodyWriteForwarded : Obligations.BodyWriteForwarded := by
  intro s src l off w f e en bytes c es htakes hoff hstate hfile hentry hopen hplan
  have hreceive : modEntry f e (Entry.receive (claimedBytes es)) (afterLeaving src s) =
      modEntry f e (fun x => { x with received := (es.map fun x => x.stop - x.start).sum }) (afterLeaving src s) :=
    modEntry_congr (en := en) (by simpa using hentry) (by rw [Entry.receive, if_pos (pending_of_open hopen)]; rfl)
  have hcurrent : (afterLeaving src s).currentFile l = some (f, e, en) :=
    currentFile_some (by simpa using hfile) (by simpa using hentry)
  rw [exec_bodyWrite_taken htakes hoff, takeBodyWrite_receiving off w (by simpa using hstate)]
  simp only [receiveBodyWrite, hcurrent, afterLeaving_lane, hplan, forwardBodyWrite, hreceive, takeForwarded_eq]
  cases src <;> rfl

/-- A noted plan says whether the write reaches past the body's end (R64). -/
theorem bodyPlan_noted {len k : Nat} {es : List Extent} {bytes : List (Option Byte)} {clamped : Bool}
    (h : bodyPlan len es k bytes = .noted clamped) : clamped = decide (len < k + bytes.length) := by
  unfold bodyPlan at h
  repeat' split at h
  all_goals cases h
  rfl

/-- A write that its lane does not take now stays with the fabric (R3, R20). -/
theorem laneWrite_untaken {kind : LaneWriteKind} {src : WriteSource} {l : LaneNo} {off : Nat} {w : WriteReq}
    (act : LaneNo → Nat → WriteReq → State → State) (hsrc : writeAt s src = some w)
    (hroute : routeWrite s w = .aperture l off) (hkind : laneWriteKind off w.bytes = kind)
    (hturned : ((s.lane l).held ≠ none ∨ (s.lane l).state = .waiting ∨ listCapacity ≤ s.port.writes.length) ∨
      ¬ HeadOfIntake s l src) :
    laneWrite kind src act s = leaveUntaken src s := by
  have htakes : ¬ (laneTakes s l = true ∧ s.headOf l src = true) := by
    rw [headOf_iff]
    rintro ⟨htakes, hhead⟩
    simp only [laneTakes, State.hasRoom, State.records, Bool.and_eq_true, Option.isNone_iff_eq_none, bne_iff_ne] at htakes
    obtain ⟨⟨hheld, hstate⟩, hroom⟩ := htakes
    rcases hturned with (h | h | h) | h
    · exact h hheld
    · exact hstate h
    · exact absurd (of_decide_eq_true hroom) (Nat.not_lt.2 h)
    · exact h hhead
  simp only [laneWrite, (sourceWrite_eq s src).trans hsrc, hroute, hkind, beq_self_eq_true, if_true, Bool.and_eq_true,
    if_neg htakes]

/-- Settles O23: the lane's state and the plan say what a taken write does; one that is not taken waits on the fabric. -/
theorem bodyWriteNotForwarded : Obligations.BodyWriteNotForwarded := by
  refine ⟨fun s src l off w htakes hoff => ?taken, fun s l off w hlive hroute => ?untaken⟩
  case taken =>
    intro refusal
    have hrefuse : refuseWrite l w.tag (afterLeaving src s) = refusal := by rw [refuseWrite, giveAnswer_eq]
    rw [exec_bodyWrite_taken htakes hoff]
    refine ⟨fun hstate => ?_, fun hstate => ?_, fun f e en hstate hfile hentry => ?_⟩
    · have hstate : ((afterLeaving src s).lane l).state = .idle ∨ ((afterLeaving src s).lane l).state = .voiding := by
        simpa using hstate
      rw [takeBodyWrite]
      rcases hstate with h | h <;> rw [h] <;> exact congrArg _ hrefuse
    · have hstate : ((afterLeaving src s).lane l).state = .muted := by simpa using hstate
      rw [takeBodyWrite, hstate]
      rfl
    · have hcurrent : (afterLeaving src s).currentFile l = some (f, e, en) :=
        currentFile_some (by simpa using hfile) (by simpa using hentry)
      rw [takeBodyWrite_receiving off w (by simpa using hstate)]
      simp only [receiveBodyWrite, hcurrent, afterLeaving_lane]
      refine ⟨fun hplan => ?_, fun clamped hplan => ⟨bodyPlan_noted hplan, ?_⟩⟩
      · rw [hplan]
        exact congrArg _ hrefuse
      · rw [hplan]
        cases clamped <;> rfl
  case untaken =>
    intro command turned
    have hwaits : ∀ src : WriteSource, src.wf = true → writeAt s src = some w → (turned ∨ ¬ HeadOfIntake s l src) →
        exec (command src) s = .next (leaveUntaken src s) := by
      intro src hwf hsrc hturned
      have hturned : ((s.lane l).held ≠ none ∨ (s.lane l).state = .waiting ∨ listCapacity ≤ s.port.writes.length) ∨
          ¬ HeadOfIntake s l src := hturned.imp_left (Or.imp_right (Or.imp_right fun h => h.ge))
      cases hkind : laneWriteKind off w.bytes <;> simp only [command, hkind]
      all_goals exact (checked_next s hlive hwf).trans (congrArg _ (laneWrite_untaken _ hsrc hroute hkind hturned))
    exact ⟨fun hwf hturned => hwaits (.present w) hwf rfl hturned, fun n hsrc hturned => hwaits (.waiting n) rfl hsrc hturned⟩

end Sys2Proof.Machine
end

section
/-! PROOFS. Steps that end in another command's step: announces refused and superseding, answers and expiries that void or
complete a file, and the ends of a stop and of a core reset. The settled statements AnnounceRefused (R25, R36),
AnnounceSupersedes (R26), BodyWriteOkayTaken (R70, R75), LaneExpiries (R31, R164) and StopAndResetEnd (R177, R180). -/

namespace Sys2Proof.Machine

open Sys2Proof.Config

variable {s t u : State}

/-! ## The end of a stop (R177) -/

/-- The conditions under which a stop is over, in the words of R177. -/
theorem stopIsOver_iff :
    stopIsOver s = true ↔ s.run.global = .stopping ∧
      (∀ l, (s.lane l).state ≠ .waiting ∧ (s.lane l).state ≠ .receiving ∧ (s.lane l).state ≠ .voiding) ∧
      (∀ f, (s.frame f).state ≠ .opened ∧ (s.frame f).state ≠ .sealing) ∧ s.fill.queue = [] := by
  simp only [stopIsOver, Bool.and_eq_true, List.all_eq_true, beq_iff_eq, bne_iff_ne, List.isEmpty_iff, laneNos_complete,
    frameNos_complete, forall_const, and_assoc]

theorem tryStop_of_not_over (h : stopIsOver s ≠ true) : tryStop s = s := if_neg h

/-- A stop waits for every job (R177). -/
theorem tryStop_of_queue (h : s.fill.queue ≠ []) : tryStop s = s := by
  refine tryStop_of_not_over fun hover => ?_
  obtain ⟨-, -, -, hqueue⟩ := stopIsOver_iff.1 hover
  exact h hqueue

/-- A stop waits for every lane that has a file or holds an announce (R177). -/
theorem tryStop_of_lane {l : LaneNo}
    (h : (s.lane l).state = .waiting ∨ (s.lane l).state = .receiving ∨ (s.lane l).state = .voiding) : tryStop s = s := by
  refine tryStop_of_not_over fun hover => ?_
  obtain ⟨-, hlanes, -⟩ := stopIsOver_iff.1 hover
  obtain ⟨hwaiting, hreceiving, hvoiding⟩ := hlanes l
  rcases h with h | h | h
  · exact hwaiting h
  · exact hreceiving h
  · exact hvoiding h

/-- The meaning of STOP_COMPLETE. -/
theorem exec_stopComplete_live (hlive : s.resetLow = false) : exec .stopComplete s = .next (tryStop s) :=
  live_next s hlive

/-- A core reset is clear when nothing taken or issued before it is outstanding (R180). -/
theorem coreIsClear_iff :
    coreIsClear s = true ↔ s.run.running = some .resetCore ∧ (∀ r ∈ s.port.writes ++ s.port.reads, r.preReset = false) ∧
      ∀ o ∈ s.port.outstanding, o.origin ≠ .dropped := by
  simp only [coreIsClear, Bool.and_eq_true, beq_iff_eq, List.all_eq_true, Bool.not_eq_true', bne_iff_ne, List.mem_append,
    or_imp, forall_and, and_assoc]

/-- Settles O41: the model's two tests, in the words of the rules. -/
theorem stopAndResetEnd : Obligations.StopAndResetEnd := by
  intro s hlive quiet clear
  have hstop : stopIsOver s = true ↔ s.run.global = .stopping ∧ quiet := stopIsOver_iff
  have hclear : coreIsClear s = true ↔ s.run.running = some .resetCore ∧ clear := coreIsClear_iff
  rw [exec_stopComplete_live hlive, exec_coreClear_live hlive]
  refine ⟨fun a hglobal hquiet hrunning => ?_, fun hnot => ?_, fun hrunning hcleared => ?_, fun hnot => ?_⟩
  · rw [tryStop, if_pos (hstop.2 ⟨hglobal, hquiet⟩)]
    simp only [finishRunning, modRun, hrunning]
  · rw [tryStop, if_neg (mt hstop.1 hnot)]
  · rw [tryClear, if_pos (hclear.2 ⟨hrunning, hcleared⟩)]
    simp only [finishRunning, modRun, hrunning]
  · rw [tryClear, if_neg (mt hclear.1 hnot)]

/-! ## Operations that add to the job queue (R109) -/

/-- Between two states the job queue has only grown, at its tail. -/
def QueueGrows (s t : State) : Prop := s.fill.queue <+: t.fill.queue

theorem QueueGrows.refl : QueueGrows s s := List.prefix_rfl

theorem QueueGrows.of_eq (h : t.fill = s.fill) : QueueGrows s t := by
  rw [QueueGrows, h]

theorem QueueGrows.after (k : QueueGrows t u) (h : QueueGrows s t) : QueueGrows s u := List.IsPrefix.trans h k

theorem QueueGrows.ite {c : Prop} [Decidable c] (h : QueueGrows s t) (k : QueueGrows s u) :
    QueueGrows s (if c then t else u) := by
  split
  · exact h
  · exact k

theorem grows_enqueueJob (s : State) (j : Job) : QueueGrows s (enqueueJob j s) := ⟨[j], rfl⟩

@[simp] theorem answerRecord_fill (s : State) (st : Stream) (slot : Nat) (code : RespCode) (data : List Byte) :
    (answerRecord st slot code data s).fill = s.fill := by
  have hframe : ({ answerRecord st slot code data s with port := s.port } : State).fill = s.fill := by
    rw [answerRecord_frame]
  exact hframe

theorem grows_examine (s : State) (f : FrameNo) : QueueGrows s (examine f s) :=
  .ite (grows_enqueueJob (modFrame f (fun fr => { fr with imageLength := some fr.finalLength, stage := .writing }) s) _) .refl

@[simp] theorem markSealing_fill (s : State) (f : FrameNo) (cause : SealCause) : (markSealing f cause s).fill = s.fill := by
  unfold markSealing
  split <;> rfl

theorem grows_enterSealing (s : State) (f : FrameNo) (cause : SealCause) : QueueGrows s (enterSealing f cause s) :=
  .after (grows_examine _ f) (.of_eq (markSealing_fill s f cause))

theorem grows_requestSeal (s : State) (f : FrameNo) (cause : SealCause) : QueueGrows s (requestSeal f cause s) :=
  .ite (grows_enterSealing s f cause) .refl

theorem grows_finishFile (s : State) (l : LaneNo) (f : FrameNo) (e : Nat) (en : Entry) (slot : Nat) :
    QueueGrows s (finishFile l f e en slot s) := by
  refine .after (grows_examine _ f) (.after (.ite (grows_requestSeal _ f _) .refl) (.after (.of_eq (answerRecord_fill ..)) ?_))
  exact .after (.of_eq rfl) (.ite (.of_eq rfl) (grows_enqueueJob (modEntry f e (Entry.completed s.tick) s) _))

theorem grows_placeFile (s : State) (l : LaneNo) (a : Announce) (slot : Nat) (f : FrameNo) :
    QueueGrows s (placeFile l a slot f s) := by
  have haccept : ∀ (u : State) (e : Nat) (en : Entry), QueueGrows u (acceptPlaced l f e slot en u) := fun u e en =>
    .ite (grows_finishFile u l f e en slot) (.of_eq (answerRecord_fill ..))
  have hadd : QueueGrows s (addEntry l a f s) := ⟨_, rfl⟩
  exact .after (haccept _ _ _) (.after (.ite (grows_requestSeal _ f _) (.ite (grows_requestSeal _ f _) .refl)) hadd)

theorem grows_holdPlaced (s : State) (l : LaneNo) (a : Announce) (reason : WaitReason) (slot : Nat) :
    QueueGrows s (holdPlaced l a reason slot s) := .ite (.of_eq rfl) (.of_eq rfl)

theorem grows_placeInNew (s : State) (l : LaneNo) (a : Announce) (slot : Nat) : QueueGrows s (placeInNew l a slot s) := by
  unfold placeInNew
  split
  · exact .after (grows_placeFile _ l a slot _) ⟨_, rfl⟩
  · exact grows_holdPlaced s l a .noFrame slot

theorem grows_requestPlacement (s : State) (l : LaneNo) (a : Announce) (slot : Nat) :
    QueueGrows s (requestPlacement l a slot s) := by
  refine .ite (grows_holdPlaced s l a .jobLimit slot) ?_
  split
  · next f _ => exact .ite (grows_placeFile s l a slot f) (.after (grows_placeInNew _ l a slot) (grows_enterSealing s f _))
  · exact grows_placeInNew s l a slot

theorem grows_afterVoid (s : State) (l : LaneNo) : QueueGrows s (afterVoid l s) := by
  unfold afterVoid
  split
  · exact .after (grows_requestPlacement _ l _ _) (.of_eq rfl)
  · exact .of_eq rfl

/-- The end of a void keeps a stop from its end: its VOID_FILL job is queued (R79, R177). -/
theorem tryStop_endVoid {l : LaneNo} (h : (s.lane l).state = .voiding) : tryStop (endVoid l s) = endVoid l s := by
  unfold endVoid
  split
  · next f e en _ =>
    refine tryStop_of_queue ?_
    have hqueued : ∀ u : State, u.fill.queue ≠ [] → (afterVoid l (examine f u)).fill.queue ≠ [] := fun u hu =>
      List.IsPrefix.ne_nil (.after (grows_afterVoid _ l) (grows_examine u f) : QueueGrows u _) hu
    exact hqueued _ (by simp [recordVoid, raiseLaneErr, modEntry])
  · exact tryStop_of_voiding h

/-- Ending the void of a VOIDING lane if it may end is VOID_END (R78, R79). -/
theorem exec_voidEnd_voiding {l : LaneNo} (hlive : s.resetLow = false) (h : (s.lane l).state = .voiding) :
    exec (.voidEnd l) s = .next (tryVoidEnd l s) := by
  have hexec : exec (.voidEnd l) s = .next (if voidMayEnd s l then tryStop (endVoid l s) else s) := live_next s hlive
  rw [hexec, tryStop_endVoid h, tryVoidEnd]

/-! ## The beginning of a void, in the words of R77 -/

/-- Answering a write record that is there, written out (R2, R29). -/
theorem answerRecord_write {slot : Nat} {r : OpenReq} (h : s.findRecord .write slot = some r) (code : RespCode)
    (data : List Byte) :
    answerRecord .write slot code data s = { s with port := { s.port with
      writes := s.port.writes.filter (fun x => x.slot != slot)
      answers := s.port.answers ++ [{ stream := .write, tag := r.tag, code := code, data := data }] } } := by
  rw [answerRecord_found _ h]
  rfl

/-- A record is found under its own number. -/
theorem findRecord_slot {st : Stream} {slot : Nat} {r : OpenReq} (h : s.findRecord st slot = some r) : r.slot = slot := by
  simpa using List.find?_some h

/-- The held-back answer, in the words of R77. -/
theorem giveLastAnswer_eq (s : State) (l : LaneNo) : giveLastAnswer l s = lastAnswered l s := by
  unfold giveLastAnswer lastAnswered
  cases hlast : (s.lane l).lastWrite with
  | none => rfl
  | some slot =>
    cases hfind : s.findRecord .write slot with
    | none => simp [answerRecord, hfind]
    | some r => simp [answerRecord_write hfind, hfind, findRecord_slot hfind]

@[simp] theorem lastAnswered_lane (l k : LaneNo) : (lastAnswered l s).lane k = s.lane k := by
  rw [← giveLastAnswer_eq, giveLastAnswer_lane]

/-- The beginning of a void, in the words of R77. -/
theorem beginVoid_eq (s : State) (l : LaneNo) (cause : VoidCause) : beginVoid l cause s = voidBegun l cause s := by
  have hentry : Entry.beginVoid = fun en => if en.state = .placed then { en with state := .voiding } else en := by
    funext en
    simp [Entry.beginVoid]
  rw [beginVoid, voidBegun, giveLastAnswer_eq, voidEntry, lastAnswered_lane]
  cases (s.lane l).file with
  | none => rfl
  | some x => rw [hentry]; rfl

@[simp] theorem voidBegun_resetLow (l : LaneNo) (cause : VoidCause) : (voidBegun l cause s).resetLow = s.resetLow := by
  rw [← beginVoid_eq, beginVoid, giveLastAnswer, voidEntry]
  have hanswer : ∀ (u : State) (slot : Nat), (answerRecord .write slot .okay [] u).resetLow = u.resetLow := fun u slot => by
    have hframe : ({ answerRecord .write slot .okay [] u with port := u.port } : State).resetLow = u.resetLow := by
      rw [answerRecord_frame]
    exact hframe
  split <;> split <;> simp [modEntry, hanswer]

@[simp] theorem voidBegun_lane_state (l : LaneNo) (cause : VoidCause) : ((voidBegun l cause s).lane l).state = .voiding := by
  rw [← beginVoid_eq, beginVoid_lane_state]

/-! ## Announces refused (R25, R35, R36) -/

/-- The meaning of ANNOUNCE when the lane takes the write (R24). -/
theorem exec_announce_taken {src : WriteSource} {l : LaneNo} {off : Nat} {w : WriteReq}
    (h : LaneTakesWrite s src l off w) (hkind : laneWriteKind off w.bytes = .announce) :
    exec (.announce src) s = .next (takeAnnounce l off w (afterLeaving src s)) := by
  have ⟨hlive, hwf, _⟩ := h
  calc exec (.announce src) s
      = .next (laneWrite .announce src takeAnnounce s) := checked_next s hlive hwf
    _ = _ := by rw [laneWrite_taken _ h hkind]

/-- A lane that was IDLE or MUTED kept no stop from its end. -/
theorem stopIsOver_of_others {l : LaneNo} (hbefore : (s.lane l).state = .idle ∨ (s.lane l).state = .muted)
    (hrun : t.run = s.run) (hothers : ∀ k, k ≠ l → t.lane k = s.lane k) (hframes : ∀ f, t.frame f = s.frame f)
    (hfill : t.fill = s.fill) (h : stopIsOver t = true) : stopIsOver s = true := by
  obtain ⟨hglobal, hlanes, hstates, hqueue⟩ := stopIsOver_iff.1 h
  refine stopIsOver_iff.2 ⟨hrun ▸ hglobal, fun k => ?_, fun f => hframes f ▸ hstates f, hfill ▸ hqueue⟩
  by_cases hk : k = l
  · subst hk
    rcases hbefore with hstate | hstate <;> simp [hstate]
  · exact hothers k hk ▸ hlanes k

/-- A refusal recorded leaves the lane's state. -/
theorem recordRefusal_state (u : State) (l : LaneNo) (r : Result) :
    ((recordRefusal l r u).lane l).state = (u.lane l).state := by
  simp [recordRefusal, raiseLaneErr]

theorem recordRefusal_other (u : State) {l k : LaneNo} (h : k ≠ l) (r : Result) :
    (recordRefusal l r u).lane k = u.lane k := by
  simp [recordRefusal, raiseLaneErr, lane_modLane_other u h]

/-- Settles O11: the refusal is the model's own; in RECEIVING it ends in VOID_END. -/
theorem announceRefused : Obligations.AnnounceRefused := by
  refine ⟨fun s src l w code htakes hkind hcode => ?refused, fun ln r => ?full⟩
  case refused =>
    intro refused
    have ⟨hlive, _⟩ := htakes
    have hstep : exec (.announce src) s = .next (tryStop (afterRefusal l refused)) := by
      rw [exec_announce_taken htakes hkind, takeAnnounce, afterLeaving_validate, hcode]
      rfl
    have hlane : (refused.lane l).state = (s.lane l).state :=
      (recordRefusal_state (answering .write w.tag .refused [] (afterLeaving src s)) l _).trans
        (congrArg Lane.state (afterLeaving_lane src l))
    have hlow : refused.resetLow = false := (afterLeaving_resetLow src).trans hlive
    refine ⟨fun hstate hover => ?muted, fun hstate => ?receiving, fun hstate => ?voiding⟩
    case muted =>
      have hmutes : afterRefusal l refused = modLane l (fun ln => { ln with state := .muted, muteMark := false }) refused := by
        rw [afterRefusal, hlane]
        rcases hstate with h | h <;> rw [h]
      have hnot : stopIsOver (modLane l (fun ln => { ln with state := .muted, muteMark := false }) refused) ≠ true := by
        have hothers : ∀ k, k ≠ l → refused.lane k = s.lane k := fun k hk =>
          (recordRefusal_other (answering .write w.tag .refused [] (afterLeaving src s)) hk _).trans (afterLeaving_lane src k)
        refine fun hmuted => absurd hover (ne_false_of_eq_true (stopIsOver_of_others hstate ?_ ?_ ?_ ?_ hmuted))
        · exact afterLeaving_run src
        · exact fun k hk => (lane_modLane_other refused hk _).trans (hothers k hk)
        · exact afterLeaving_frame src
        · exact afterLeaving_fill src
      rw [hstep, hmutes, tryStop_of_not_over hnot]
    case receiving =>
      have hvoids : afterRefusal l refused =
          tryVoidEnd l (modLane l (fun ln => { ln with muteMark := true }) (voidBegun l .superseded refused)) := by
        rw [afterRefusal, hlane, hstate, beginVoid_eq]
      rw [hstep, hvoids]
      exact ⟨_, rfl, exec_voidEnd_of_voiding (by simpa using hlow) (by simp)⟩
    case voiding =>
      have hmarks : afterRefusal l refused = modLane l (fun ln => { ln with muteMark := true }) refused := by
        rw [afterRefusal, hlane, hstate]
      rw [hstep, hmarks, tryStop_of_voiding (l := l) (by simpa using hlane.trans hstate)]
  case full =>
    have hcap : resultCapacity = 4 := rfl
    refine ⟨fun hroom => ?_, fun hfull => ?_⟩
    · rw [Lane.pushResult, hcap, if_pos hroom]
    · rw [Lane.pushResult, hcap, if_neg (by omega)]
      simp only [beq_iff_eq]
      split <;> simp_all

/-! ## Announces that supersede a file (R26) -/

@[simp] theorem afterLeaving_tick (src : WriteSource) : (afterLeaving src s).tick = s.tick := by cases src <;> rfl

@[simp] theorem lastAnswered_tick (l : LaneNo) : (lastAnswered l s).tick = s.tick := by
  unfold lastAnswered
  split <;> rfl

@[simp] theorem voidBegun_tick (l : LaneNo) (cause : VoidCause) : (voidBegun l cause s).tick = s.tick := by
  unfold voidBegun
  split <;> simp [modEntry]

/-- Settles O12: the announce is held behind a void; a void begun by it may end in the same step. -/
theorem announceSupersedes : Obligations.AnnounceSupersedes := by
  intro s src l w htakes hkind hvalid taken holding
  have ⟨hlive, _⟩ := htakes
  have hstep : exec (.announce src) s = .next (acceptAnnounce l (parseAnnounce (w.bytes.filterMap id)).valid
      ((afterLeaving src s).freshSlot .write) taken) := by
    rw [exec_announce_taken htakes hkind, takeAnnounce, afterLeaving_validate, hvalid]
    rfl
  have hlane : taken.lane l = s.lane l := (addRecord_lane ..).trans (afterLeaving_lane src l)
  have hlow : taken.resetLow = false := (afterLeaving_resetLow src).trans hlive
  have htick : taken.tick = s.tick := afterLeaving_tick src
  have hholding : ∀ u : State, u.tick = s.tick →
      holdBehindVoid l (parseAnnounce (w.bytes.filterMap id)).valid ((afterLeaving src s).freshSlot .write) u =
        holding u := fun u hu => by
    rw [holdBehindVoid, startTimer, hu]
  refine ⟨fun hstate => ?receiving, fun hstate => ?voiding⟩
  case receiving =>
    have hholds : acceptAnnounce l (parseAnnounce (w.bytes.filterMap id)).valid ((afterLeaving src s).freshSlot .write)
        taken = tryVoidEnd l (holding (voidBegun l .superseded taken)) := by
      rw [acceptAnnounce, hlane, hstate, beginVoid_eq, hholding _ (by simpa using htick)]
    rw [hstep, hholds]
    exact ⟨_, rfl, exec_voidEnd_voiding (by simpa [holding] using hlow) (by simp [holding])⟩
  case voiding =>
    have hholds : acceptAnnounce l (parseAnnounce (w.bytes.filterMap id)).valid ((afterLeaving src s).freshSlot .write)
        taken = holding taken := by
      rw [acceptAnnounce, hlane, hstate, hholding _ htick]
    rw [hstep, hholds]

/-! ## An OKAY answer to a body write (R70, R75) -/

/-- A file that the lane still receives completes as FILE_COMPLETION has it (R75, R76). -/
theorem exec_fileCompletion_receiving {l : LaneNo} (hlive : s.resetLow = false) (h : (s.lane l).state = .receiving) :
    exec (.fileCompletion l) s = .next (tryStop (tryComplete l s)) := by
  have hexec : exec (.fileCompletion l) s = .next (if completionDue s l then tryStop (tryComplete l s) else s) :=
    live_next s hlive
  rw [hexec]
  split
  · rfl
  · next hdue =>
    have hwaits : tryComplete l s = s := by
      unfold tryComplete
      split
      · next slot f e en hlast hfile => exact if_neg fun hroom => hdue (by simp_all [completionDue])
      · rfl
    rw [hwaits, tryStop_of_lane (.inr (.inl h))]

/-- No void ends on a lane that receives its file. -/
theorem exec_voidEnd_receiving {l : LaneNo} (hlive : s.resetLow = false) (h : (s.lane l).state = .receiving) :
    exec (.voidEnd l) s = .next (tryStop (tryVoidEnd l s)) := by
  have hexec : exec (.voidEnd l) s = .next (if voidMayEnd s l then tryStop (endVoid l s) else s) := live_next s hlive
  have hnot : voidMayEnd s l ≠ true := by simp [voidMayEnd, h]
  rw [hexec, tryVoidEnd, if_neg hnot, if_neg hnot, tryStop_of_lane (.inr (.inl h))]

/-- The entry that an update of it leaves. -/
theorem entry_modEntry {f : FrameNo} {e : Nat} {en : Entry} (h : s.entry? f e = some en) (g : Entry → Entry) :
    (modEntry f e g s).entry? f e = some (g en) := by
  have hentry : (s.frame f).entries[e]? = some en := h
  simp [State.entry?, modEntry, hentry]

/-- The state in which the OKAY answer to a body write has reached the sums and the lane's counts (R70). -/
def bodyOkaySummed (i : BodyWriteInfo) (bytes : List (Option Byte)) (s : State) : State :=
  modLane i.lane (fun ln => { ln with outstanding := ln.outstanding - 1
                                      clamped := if i.pastEnd then ln.clamped + 1 else ln.clamped })
    (modFrame i.frame (fun fr => { fr with sums := fr.sums.addBytes (i.off + 64 + i.k) bytes })
      (modEntry i.frame i.entry (fun x => { x with sums := x.sums.addBytes i.k bytes }) s))

/-- The model sums the bytes of a pending entry so (R70, R87). -/
theorem laneWriteOkay_addBody {i : BodyWriteInfo} {en : Entry} (hentry : s.entry? i.frame i.entry = some en)
    (hopen : en.pending = true) (bytes : List (Option Byte)) :
    laneWriteOkay i (addBody i bytes s) = bodyOkaySummed i bytes s := by
  have hsum : modEntry i.frame i.entry (Entry.addBody i.k bytes) s =
      modEntry i.frame i.entry (fun x => { x with sums := x.sums.addBytes i.k bytes }) s :=
    modEntry_congr hentry (by rw [Entry.addBody, if_pos hopen])
  rw [laneWriteOkay, addBody, hsum, bodyOkaySummed]

/-- The file is written when this was its last outstanding write and its one extent is the whole body (R75). -/
theorem fileIsWritten_summed {i : BodyWriteInfo} {en : Entry} {bytes : List (Option Byte)}
    (hfile : (s.lane i.lane).file = some (i.frame, i.entry)) (hentry : s.entry? i.frame i.entry = some en) :
    fileIsWritten (bodyOkaySummed i bytes s) i.lane = true ↔
      (s.lane i.lane).state = .receiving ∧ (s.lane i.lane).outstanding ≤ 1 ∧
        (s.lane i.lane).extents = [{ start := 0, stop := en.len }] := by
  have hsummed := entry_modEntry hentry fun x => { x with sums := x.sums.addBytes i.k bytes }
  have hcurrent : (bodyOkaySummed i bytes s).currentFile i.lane =
      some (i.frame, i.entry, { en with sums := en.sums.addBytes i.k bytes }) :=
    currentFile_some (by simpa [bodyOkaySummed] using hfile) (by simpa [State.entry?, bodyOkaySummed] using hsummed)
  simp only [fileIsWritten, hcurrent, isWritten]
  simp only [bodyOkaySummed, lane_modLane_same, lane_modFrame, lane_modEntry,
    Bool.and_eq_true, beq_iff_eq, Nat.sub_eq_zero_iff_le]
  exact ⟨fun ⟨⟨hstate, hextents⟩, hout⟩ => ⟨hstate, hout, hextents⟩, fun ⟨hstate, hout, hextents⟩ => ⟨⟨hstate, hextents⟩, hout⟩⟩

/-- Settles O24: the step sums, and ends in FILE_COMPLETION or in VOID_END. -/
theorem bodyWriteOkayTaken : Obligations.BodyWriteOkayTaken := by
  intro s btag r i o en hanswers hout horigin hreset hfile hentry hstate bytes summed written
  obtain ⟨o', hout', hhanded⟩ := answeredRecord_answers hanswers (given := none) (fun d hd => nomatch hd)
  obtain ⟨-, hlive, -, -, hrecord, -⟩ := hanswers
  obtain rfl : o = o' := Option.some.inj (hout.symm.trans hout')
  have hopen : en.pending = true := pending_of_open (hstate.imp And.right And.right)
  have hsummed : laneWriteOkay i (addBody i o.req.writeBytes (dropOutstanding btag s)) = dropOutstanding btag summed :=
    laneWriteOkay_addBody (s := dropOutstanding btag s) hentry hopen bytes
  have hwritten : fileIsWritten (dropOutstanding btag summed) i.lane = true ↔ written := fileIsWritten_summed hfile hentry
  have hstep : exec (.bodyWriteOkay btag) s =
      .next (tryStop (settleBodyOkay i.lane r.slot (dropOutstanding btag summed))) := by
    have hexec : exec (.bodyWriteOkay btag) s = execBodyWriteOkay btag s := rfl
    rw [hexec, execBodyWriteOkay, hhanded]
    simp only [horigin, hreset, Bool.false_eq_true, if_false, hsummed]
  have hlane : (summed.lane i.lane).state = (s.lane i.lane).state := by
    simp only [summed, lane_modLane_same, lane_modFrame, lane_modEntry]
  refine ⟨fun hw => ⟨_, hstep, ?written⟩, fun hw => ⟨_, hstep, ?unwritten⟩⟩
  case written =>
    have hheld : holdLastAnswer i.lane r.slot (dropOutstanding btag summed) =
        modLane i.lane (fun ln => { ln with timer := none, lastWrite := some r.slot })
          { summed with port := { s.port with
            outstanding := s.port.outstanding.filter (fun x => x.btag != btag)
            writes := s.port.writes.map fun x =>
              if x.slot = r.slot then { x with stage := .pendingOwner .okay [] } else x } } := by
      simp only [holdLastAnswer, modRecord, beq_iff_eq]
      rfl
    rw [settleBodyOkay, if_pos (hwritten.2 hw), hheld]
    refine exec_fileCompletion_receiving hlive ?_
    rw [lane_modLane_same]
    exact hlane.trans hw.1
  case unwritten =>
    have hkept : summed.findRecord .write r.slot = some r := hrecord
    have hanswer : answerRecord .write r.slot .okay [] (dropOutstanding btag summed) = settling btag .write r .okay [] summed :=
      answerRecord_dropOutstanding hkept btag .okay []
    rw [settleBodyOkay, if_neg (mt hwritten.1 hw), hanswer]
    rcases hstate with ⟨hreceiving, -⟩ | ⟨hvoiding, -⟩
    · exact exec_voidEnd_receiving hlive (by simpa using hlane.trans hreceiving)
    · exact exec_voidEnd_of_voiding hlive (by simpa using hlane.trans hvoiding)

/-! ## Lane and hold expiries (R31, R164, R165) -/

/-- An answer changes the ports alone (R4). -/
theorem answerRecord_eq (st : Stream) (slot : Nat) (code : RespCode) (data : List Byte) (s : State) :
    answerRecord st slot code data s = { s with port := (answerRecord st slot code data s).port } := by
  unfold answerRecord
  split
  · cases st <;> rfl
  · rfl

/-- A lane whose held announce has been refused with a result (R31, R32). -/
def Lane.heldRefused (r : Result) (ln : Lane) : Lane :=
  { ln.pushResult r with
    refusedAnn := ln.refusedAnn + 1, held := none
    state := if ln.state = .waiting then .muted else ln.state, muteMark := decide (ln.state ≠ .waiting) }

/-- A held announce refused, in the words of R31: its answer, its result and counter, and its lane. -/
theorem refuseHeld_held {l : LaneNo} {h : Held} (hheld : (s.lane l).held = some h) (code : ResultCode) :
    refuseHeld l code s = { modLane l (Lane.heldRefused (h.ann.refusal code)) s with
      waitList := s.waitList.filter (· != l)
      attn := { s.attn with laneErr := true }
      port := (answerRecord .write h.slot .refused [] s).port } := by
  have hdrop : ∀ ln : Lane, ({ ln.pushResult (h.ann.refusal code) with refusedAnn := ln.refusedAnn + 1 } : Lane).dropHeld =
      ln.heldRefused (h.ann.refusal code) := fun ln => by
    by_cases hwaiting : ln.state = .waiting <;> simp [Lane.heldRefused, Lane.dropHeld, hwaiting]
  rw [refuseHeld, hheld]
  simp only [recordRefusal, raiseLaneErr, modLane_modAttn, modLane_modLane, hdrop]
  rw [answerRecord_eq]
  rfl

/-- A held announce refused, its write's record found. -/
theorem refuseHeld_eq {l : LaneNo} {h : Held} {r : OpenReq} (hheld : (s.lane l).held = some h)
    (hrecord : s.findRecord .write h.slot = some r) (code : ResultCode) :
    refuseHeld l code s = { modLane l (Lane.heldRefused (h.ann.refusal code)) s with
      waitList := s.waitList.filter (· != l)
      attn := { s.attn with laneErr := true }
      port := { s.port with
        writes := s.port.writes.filter (fun x => x.slot != h.slot)
        answers := s.port.answers ++ [{ stream := .write, tag := r.tag, code := .refused, data := [] }] } } := by
  rw [refuseHeld_held hheld, answerRecord_write hrecord]

/-- Settles O40: a lane expiry ends in VOID_END; a hold expiry is the refusal of R31. -/
theorem laneExpiries : Obligations.LaneExpiries := by
  intro s l hlive
  refine ⟨fun x f e hstate htimer hreported hfile hlast => ?lane, fun h r hheld hreported hrecord => ?hold⟩
  case lane =>
    have hexec : exec (.laneTimerExpiry l) s =
        .next (if laneExpiryDue s l then tryStop (tryVoidEnd l (beginVoid l .timeout s)) else s) := live_next s hlive
    have hdue : laneExpiryDue s l = true := by simp [laneExpiryDue, hstate, htimer, hreported]
    rw [hexec, if_pos hdue, beginVoid_of_noLastWrite .timeout hfile hlast]
    exact ⟨_, rfl, exec_voidEnd_of_voiding hlive (by simp)⟩
  case hold =>
    have hexec : exec (.holdTimeoutExpiry l) s = .next (if holdExpiryDue s l then refuseHeld l .refusedHold s else s) :=
      live_next s hlive
    have hdue : holdExpiryDue s l = true := by simp [holdExpiryDue, hheld, hreported]
    rw [hexec, if_pos hdue, refuseHeld_eq hheld hrecord]
    rfl

end Sys2Proof.Machine
end

section
/-! PROOFS. Reads of the frame region, fill bursts, and the deadlines of frames: the settled statements FrameReadsServed
(R140), DrainPassStarts (R142, R147), DrainReadTaken (R143), FillBurstAnswered (R88, R114) and FrameExpiries (R150, R163). -/

namespace Sys2Proof.Machine

open Sys2Proof.Config

variable {s : State}

/-! ## Reads of the frame region (R140) -/

/-- The meaning of FRAME_REGION_READ when the drain monitor takes the read (R140). -/
theorem exec_frameRegionRead_taken {r : ReadReq} {f : FrameNo} {off : Nat} (h : FrameTakesRead s r f off) :
    exec (.frameRegionRead r) s = .next (frameRead r f off s) := by
  obtain ⟨hlive, hwf, hroute, hroom⟩ := h
  have hexec : exec (.frameRegionRead r) s = execFrameRegionRead r s := rfl
  have hplace : s.hasRoom .read = true := decide_eq_true hroom
  rw [hexec, execFrameRegionRead, checked_next s hlive hwf]
  simp only [hroute, hplace, if_true]

/-- Settles O30: a read that no pass takes is refused, or forwarded as it is. -/
theorem frameReadsServed : Obligations.FrameReadsServed := by
  intro s r f off htakes
  rw [exec_frameRegionRead_taken htakes, frameRead]
  refine ⟨fun hstate => ?refused, fun hstate => ?plain⟩
  case refused => rcases hstate with h | h | h <;> rw [h] <;> rfl
  case plain =>
    rcases hstate with ⟨h, hoff⟩ | h | h
    · rw [h]
      simp only [if_neg hoff, forwardDrainRead, takeForwarded_eq, plainInfo]
    · rw [h]
      simp only [forwardDrainRead, takeForwarded_eq, plainInfo]
    · rw [h]
      simp only [forwardDrainRead, takeForwarded_eq, plainInfo]

/-! ## Reads of a pass (R142, R143, R147) -/

/-- A read of a running pass, by the case of its claim (R143). -/
theorem drainRead_eq {r : ReadReq} {f : FrameNo} {off il : Nat} {d : Drain} (hdrain : (s.frame f).drain = some d)
    (hlength : (s.frame f).imageLength = some il) :
    drainRead r f off s =
      forwardDrainRead r (memberInfo f off (claimCase off (off + 8 * r.beats) d.cursor il))
        (modFrame f (fun fr => { fr with
          drain := some (d.take (startTimer s) (claimCase off (off + 8 * r.beats) d.cursor il)) }) s) := by
  have hclaim : s.claimOf f off (8 * r.beats) = claimCase off (off + 8 * r.beats) d.cursor il := by
    simp [State.claimOf, hdrain, Frame.length, hlength]
  rw [drainRead, hclaim, modDrain_of_some hdrain]

/-- The first read of a pass claims from 0 to its end, clipped at image_length (R143). -/
theorem claimCase_first {n il : Nat} (hn : 0 < n) (hil : 0 < il) : claimCase 0 n 0 il = .claim 0 (min n il) := by
  simp [claimCase, hn, hil]

/-- The read that starts or restarts a pass, once the frame's drain state is a new one (R142, R147). -/
theorem drainRead_begun {u : State} {r : ReadReq} {f : FrameNo} {il : Nat} (hbeats : 0 < r.beats)
    (hlength : (u.frame f).imageLength = some il) (hil : 0 < il) :
    drainRead r f 0 (beginPass f u) =
      forwardDrainRead r { frame := f, off := 0, member := true, counted := true, lo := 0, hi := min (8 * r.beats) il }
        (modFrame f (fun fr => { fr with
          drain := some { cursor := min (8 * r.beats) il, broken := false, outstanding := 1, sums := { a := 0, b := 0 }
                          timer := some { start := u.tick, reported := false } } }) u) := by
  have hdrain : ((beginPass f u).frame f).drain = some { Drain.reset with timer := some (startTimer u) } := by
    simp [beginPass]
  have hkept : ((beginPass f u).frame f).imageLength = some il := by simpa [beginPass] using hlength
  rw [drainRead_eq hdrain hkept, Nat.zero_add]
  simp only [Drain.reset, claimCase_first (show 0 < 8 * r.beats by omega) hil, Drain.take, memberInfo]
  rw [beginPass, modFrame_modFrame]
  rfl

/-- The model's two names of the marks of a frame's reads cleared agree. -/
theorem clearMarks_eq (f : FrameNo) (s : State) : clearMarks f s = unmarking f s := by
  have hreads : s.port.reads.map (OpenReq.unmark f) = (unmarking f s).port.reads := by
    refine List.map_congr_left fun x _ => ?_
    obtain ⟨slot, tag, cls, origin, stage, beats, preReset⟩ := x
    cases origin <;> simp [OpenReq.unmark]
  rw [clearMarks, hreads]
  rfl

@[simp] theorem frame_clearMarks (f k : FrameNo) : (clearMarks f s).frame k = s.frame k := rfl

/-- Leaving the seal queue changes places with a frame's update. -/
theorem modFrame_leaveSealQ (f k : FrameNo) (g : Frame → Frame) (s : State) :
    modFrame f g (leaveSealQ k s) = leaveSealQ k (modFrame f g s) := rfl

/-- Settles O31: both ways into a pass end in its first read. -/
theorem drainPassStarts : Obligations.DrainPassStarts := by
  intro s r f il htakes hlength hil claimed
  have ⟨_, hwf, _⟩ := htakes
  have hbeats := beats_pos hwf
  rw [exec_frameRegionRead_taken htakes, frameRead]
  refine ⟨fun hstate => ?start, fun hstate => ?restart⟩
  case start =>
    have hframe : (leaveSealQ f (modFrame f (fun fr => { fr with state := .draining }) s)).frame f =
        { s.frame f with state := .draining } := by
      rw [leaveSealQ]
      exact frame_modFrame_same s f (fun fr => { fr with state := .draining })
    have hkept : ((leaveSealQ f (modFrame f (fun fr => { fr with state := .draining }) s)).frame f).imageLength = some il := by
      rw [hframe]
      exact hlength
    rw [hstate]
    simp only [if_true, startPass]
    rw [drainRead_begun hbeats hkept hil, forwardDrainRead, takeForwarded_eq, modFrame_leaveSealQ, modFrame_modFrame]
    rfl
  case restart =>
    rw [hstate]
    simp only [if_true, restartPass]
    rw [drainRead_begun hbeats (by simpa using hlength) hil, forwardDrainRead, takeForwarded_eq, clearMarks_eq]
    have hstays : modFrame f (fun fr => { fr with
          drain := some { cursor := min (8 * r.beats) il, broken := false, outstanding := 1, sums := { a := 0, b := 0 }
                          timer := some { start := s.tick, reported := false } } }) (unmarking f s) =
        modFrame f (fun fr => { fr with
          state := .draining
          drain := some { cursor := min (8 * r.beats) il, broken := false, outstanding := 1, sums := { a := 0, b := 0 }
                          timer := some { start := s.tick, reported := false } } }) (unmarking f s) :=
      modFrame_congr (unmarking f s) f (congrArg (fun st => { s.frame f with
          state := st
          drain := some { cursor := min (8 * r.beats) il, broken := false, outstanding := 1, sums := { a := 0, b := 0 }
                          timer := some { start := s.tick, reported := false } } }) hstate)
    exact congrArg (fun u => Host.Outcome.next (forwarding .read r.tag (.frame f) (.drainRead _) r.beats _ u)) hstays

/-- Settles O32: the claim's case says what the read does. -/
theorem drainReadTaken : Obligations.DrainReadTaken := by
  intro s r f off il d htakes hoff hstate hdrain hlength b takes
  have htaken : frameRead r f off s = drainRead r f off s := by
    rw [frameRead, hstate]
    simp only [if_neg hoff]
  rw [exec_frameRegionRead_taken htakes, htaken, drainRead_eq hdrain hlength]
  refine congrArg _ ?_
  by_cases hclaim : off ≤ d.cursor ∧ d.cursor < b ∧ d.cursor < il
  · have hcase : claimCase off (off + 8 * r.beats) d.cursor il = .claim d.cursor (min b il) := if_pos hclaim
    rw [if_pos hclaim, hcase]
    rfl
  rw [if_neg hclaim]
  by_cases hend : d.cursor = il
  · have hcase : claimCase off (off + 8 * r.beats) d.cursor il = .pastTheEnd := by
      rw [claimCase, if_neg hclaim, if_pos hend]
    rw [if_pos (.inl hend), hcase]
    rfl
  by_cases hagain : b ≤ d.cursor
  · have hcase : claimCase off (off + 8 * r.beats) d.cursor il = .reRead := by
      rw [claimCase, if_neg hclaim, if_neg hend, if_pos hagain]
    rw [if_pos (.inr hagain), hcase]
    rfl
  · have hcase : claimCase off (off + 8 * r.beats) d.cursor il = .gap := by
      rw [claimCase, if_neg hclaim, if_neg hend, if_neg hagain]
    rw [if_neg (by simp [hend, hagain]), hcase]
    rfl

/-! ## Answers to fill bursts (R88, R114) -/

/-- A mask over bytes, byte by byte. -/
theorem maskBytes_eq (keep : Nat → Bool) (q : Nat) (bytes : List (Option Byte)) :
    maskBytes keep q bytes = bytes.mapIdx fun j b => if keep (q + j) then b else none := by
  induction bytes generalizing q with
  | nil => rfl
  | cons b bs ih => simp [maskBytes, ih, List.mapIdx_cons, Nat.add_assoc, Nat.add_comm 1]

/-- The bytes of a burst that the pack sum takes in: all but the trailer's (R88). -/
theorem summedBytes_some {fr : Frame} {il : Nat} (h : fr.imageLength = some il) (off : Nat) (bytes : List (Option Byte)) :
    summedBytes fr off bytes = bytes.mapIdx fun j b => if il - 64 ≤ off + j ∧ off + j < il then none else b := by
  have hbyte : ∀ q (b : Option Byte), (if decide (q + 64 < il) || decide (il ≤ q) then b else none) =
      if il - 64 ≤ q ∧ q < il then none else b := fun q b => by
    have hkeep : (decide (q + 64 < il) || decide (il ≤ q)) = true ↔ ¬ (il - 64 ≤ q ∧ q < il) := by
      simp only [Bool.or_eq_true, decide_eq_true_eq]
      omega
    by_cases hq : il - 64 ≤ q ∧ q < il
    · rw [if_pos hq, if_neg (fun hk => hkeep.1 hk hq)]
    · rw [if_neg hq, if_pos (hkeep.2 hq)]
  simp only [summedBytes, h, maskBytes_eq, hbyte]

/-- Before the frame seals no byte is a trailer's (R88). -/
theorem summedBytes_none {fr : Frame} (h : fr.imageLength = none) (off : Nat) (bytes : List (Option Byte)) :
    summedBytes fr off bytes = bytes := by
  simp only [summedBytes, h]

/-- Settles O35: the burst's bytes or its fault, then the count, then the test of the job. -/
theorem fillBurstAnswered : Obligations.FillBurstAnswered := by
  intro s btag o k f off hlive hout horigin counted bytes summed
  have hdone : ∀ u : State, u.resetLow = false → exec .fillJobComplete u = .next (tryCompleteJob u) := fun u hu =>
    live_next u hu
  refine ⟨⟨_, ?_, hdone _ hlive⟩, ⟨_, ?_, hdone _ hlive⟩⟩
  · have hexec : exec (.fillBurstOkay btag) s = execFillBurstOkay btag s := rfl
    rw [hexec, execFillBurstOkay]
    simp only [answered, hlive, Bool.false_eq_true, if_false, hout, horigin]
    have hsummed : summedBytes (s.frame f) off bytes = summed := by
      cases hlength : (s.frame f).imageLength with
      | none =>
        simp only [summed, hlength, summedBytes_none hlength]
        exact List.ext_getElem? fun i => by simp
      | some il => simp only [summed, hlength, summedBytes_some hlength]
    have hadd : addBurst f off o.req.writeBytes (dropOutstanding btag s) =
        modFrame f (fun fr => { fr with sums := fr.sums.addBytes off summed }) (dropOutstanding btag s) :=
      modFrame_congr _ f (congrArg (fun x => { s.frame f with sums := (s.frame f).sums.addBytes off x }) hsummed)
    rw [hadd]
    rfl
  · have hexec : exec (.fillBurstFault btag) s = execFillBurstFault btag s := rfl
    rw [hexec, execFillBurstFault]
    simp only [answered, hlive, Bool.false_eq_true, if_false, hout, horigin]
    rfl

/-! ## Age and drain expiries (R150, R163) -/

/-- Settles O39: an age expiry is the sealing of an OPEN frame, a drain expiry the return to SEALED. -/
theorem frameExpiries : Obligations.FrameExpiries := by
  intro s f hlive
  refine ⟨fun hreported => ⟨fun hstate => ?closed, fun c hstate hcls => ?opened⟩, fun d x hstate hdrain htimer hreported => ?drain⟩
  case closed =>
    have hexec : exec (.ageExpiry f) s = .next (if (s.frame f).ageReported then requestSeal f .age s else s) :=
      live_next s hlive
    rw [hexec, if_pos hreported, requestSeal, if_neg (by simpa using hstate)]
  case opened =>
    have hexec : exec (.ageExpiry f) s = .next (if (s.frame f).ageReported then requestSeal f .age s else s) :=
      live_next s hlive
    rw [hexec, if_pos hreported, requestSeal, if_pos (by simpa using hstate), enterSealing, markSealing_of_bound .age hcls]
    exact ⟨_, rfl, exec_sealReady_live hlive⟩
  case drain =>
    have hexec : exec (.drainTimeoutExpiry f) s =
        .next (if drainExpiryDue s f then backToSealed f (clearMarks f s) else s) := live_next s hlive
    have hdue : drainExpiryDue s f = true := by simp [drainExpiryDue, hstate, hdrain, htimer, hreported]
    rw [hexec, if_pos hdue, backToSealed_eq, clearMarks_eq]
    rfl

end Sys2Proof.Machine
end

section
/-! PROOFS. The tick, the tests of the deadlines, and the writes of configuration items: the settled statements TickAdvances
(R161 to R166), TimerLimitWrites (R167) and ItemWrites (R186, R192). -/

namespace Sys2Proof.Machine

open Sys2Proof.Config

variable {s : State}

/-! ## Loops that change each lane, or each frame, by itself -/

/-- A loop over the frames whose every round updates its own frame does nothing else. -/
theorem forFrames_only {g : FrameNo → State → State} {h : FrameNo → Frame → Frame}
    (hg : ∀ f fs, g f { s with frames := fs } = modFrame f (h f) { s with frames := fs }) :
    (∀ k, (forFrames g s).frame k = h k (s.frame k)) ∧ ∃ fs, forFrames g s = { s with frames := fs } := by
  have hloop : ∀ (ns : List FrameNo) (fs : Vector Frame 8),
      ns.foldl (fun t f => g f t) { s with frames := fs } =
        ns.foldl (fun t f => modFrame f (h f) t) { s with frames := fs } := by
    intro ns
    induction ns with
    | nil => exact fun _ => rfl
    | cons f ns ih =>
      intro fs
      rw [List.foldl_cons, List.foldl_cons, hg f fs]
      exact ih _
  have heq : forFrames g s = forFrames (fun f => modFrame f (h f)) s := hloop frameNos s.frames
  rw [heq]
  refine ⟨forFrames_frame s h, forFrames_keeps (P := fun t => ∃ fs, t = { s with frames := fs }) s ?_ ⟨s.frames, rfl⟩⟩
  rintro f _ ⟨fs, rfl⟩
  exact ⟨_, rfl⟩

/-- A loop over the lanes whose every round updates its own lane does nothing else. -/
theorem forLanes_only {g : LaneNo → State → State} {h : LaneNo → Lane → Lane}
    (hg : ∀ l ls, g l { s with lanes := ls } = modLane l (h l) { s with lanes := ls }) :
    (∀ k, (forLanes g s).lane k = h k (s.lane k)) ∧ ∃ ls, forLanes g s = { s with lanes := ls } := by
  have hloop : ∀ (ns : List LaneNo) (ls : Vector Lane 16),
      ns.foldl (fun t l => g l t) { s with lanes := ls } =
        ns.foldl (fun t l => modLane l (h l) t) { s with lanes := ls } := by
    intro ns
    induction ns with
    | nil => exact fun _ => rfl
    | cons l ns ih =>
      intro ls
      rw [List.foldl_cons, List.foldl_cons, hg l ls]
      exact ih _
  have heq : forLanes g s = forLanes (fun l => modLane l (h l)) s := hloop laneNos s.lanes
  rw [heq]
  refine ⟨forLanes_lane s h, forLanes_keeps (P := fun t => ∃ ls, t = { s with lanes := ls }) s ?_ ⟨s.lanes, rfl⟩⟩
  rintro l _ ⟨ls, rfl⟩
  exact ⟨_, rfl⟩

/-! ## The tests of one kind of deadline (R162 to R166) -/

/-- A frame once the age deadline has been tested (R163). -/
def Frame.ageTested (now : Tick) (it : Items) (fr : Frame) : Frame :=
  { fr with ageReported := fr.ageReported ||
      decide (fr.state = .opened ∧ it.ageLimit ≠ 0 ∧ it.ageLimit.toNat ≤ (now - fr.openTick).toNat) }

/-- A frame once the drain deadline has been tested (R166). -/
def Frame.drainTested (now : Tick) (it : Items) (fr : Frame) : Frame :=
  { fr with drain := fr.drain.map fun d => { d with timer := d.timer.map (Timer.test now it.drainTimeout.toNat) } }

/-- A lane once its own deadline has been tested (R164). -/
def Lane.timerTested (now : Tick) (it : Items) (ln : Lane) : Lane :=
  { ln with
    timer := ln.timer.map (Timer.test now (if ln.firstWrite then it.laneTimeout.toNat else 4 * it.laneTimeout.toNat)) }

/-- A lane once the hold deadline has been tested (R165). -/
def Lane.holdTested (now : Tick) (it : Items) (ln : Lane) : Lane :=
  { ln with held := ln.held.map fun h => { h with timer := h.timer.test now it.holdTimeout.toNat } }

theorem testAge_eq (f : FrameNo) (t : State) : testAge f t = modFrame f (Frame.ageTested t.tick t.items) t := by
  unfold testAge
  by_cases h : (t.frame f).state = .opened ∧ t.items.ageLimit ≠ 0
  · have htest : ((t.frame f).state == .opened && t.items.ageLimit != 0) = true := by simpa using h
    rw [if_pos htest]
    obtain ⟨hopen, hlimit⟩ := h
    exact modFrame_congr t f (by simp only [Frame.ageTested, expired, hopen, hlimit, true_and, ne_eq, not_false_eq_true])
  · have htest : ¬ ((t.frame f).state == .opened && t.items.ageLimit != 0) = true := by simpa using h
    have hnot : ¬ ((t.frame f).state = .opened ∧ t.items.ageLimit ≠ 0 ∧
        t.items.ageLimit.toNat ≤ (t.tick - (t.frame f).openTick).toNat) := fun ⟨hopen, hlimit, _⟩ => h ⟨hopen, hlimit⟩
    rw [if_neg htest]
    exact (modFrame_id t f _ (by simp only [Frame.ageTested, hnot, decide_false, Bool.or_false])).symm

theorem forFrames_testAge (s : State) :
    (∀ f, (forFrames testAge s).frame f = (s.frame f).ageTested s.tick s.items) ∧
      ∃ fs, forFrames testAge s = { s with frames := fs } :=
  forFrames_only (h := fun _ => Frame.ageTested s.tick s.items) fun f _ => testAge_eq f _

theorem forFrames_testDrain (s : State) :
    (∀ f, (forFrames testDrain s).frame f = (s.frame f).drainTested s.tick s.items) ∧
      ∃ fs, forFrames testDrain s = { s with frames := fs } :=
  forFrames_only (h := fun _ => Frame.drainTested s.tick s.items) fun _ _ => rfl

theorem forLanes_testLane (s : State) :
    (∀ l, (forLanes testLane s).lane l = (s.lane l).timerTested s.tick s.items) ∧
      ∃ ls, forLanes testLane s = { s with lanes := ls } :=
  forLanes_only (h := fun _ => Lane.timerTested s.tick s.items) fun _ _ => rfl

theorem forLanes_testHold (s : State) :
    (∀ l, (forLanes testHold s).lane l = (s.lane l).holdTested s.tick s.items) ∧
      ∃ ls, forLanes testHold s = { s with lanes := ls } :=
  forLanes_only (h := fun _ => Lane.holdTested s.tick s.items) fun _ _ => rfl

/-! ## The tests of every deadline (R161, R162) -/

/-- What the tests of an advance leave (R162). -/
theorem testAll_eq (s : State) :
    (∀ l, (testAll s).lane l = ((s.lane l).timerTested s.tick s.items).holdTested s.tick s.items) ∧
      (∀ f, (testAll s).frame f = ((s.frame f).ageTested s.tick s.items).drainTested s.tick s.items) ∧
      ∃ ls fs, testAll s = { s with lanes := ls, frames := fs } := by
  obtain ⟨hage, fs, hfs⟩ := forFrames_testAge s
  obtain ⟨htimer, ls, hls⟩ := forLanes_testLane { s with frames := fs }
  obtain ⟨hhold, ls', hls'⟩ := forLanes_testHold { s with frames := fs, lanes := ls }
  obtain ⟨hdrain, fs', hfs'⟩ := forFrames_testDrain { s with frames := fs, lanes := ls' }
  have hall : testAll s = { s with lanes := ls', frames := fs' } := by
    rw [testAll, hfs, hls, hls', hfs']
  rw [hfs] at hage
  rw [hls] at htimer
  rw [hls'] at hhold
  rw [hfs'] at hdrain
  rw [hall]
  exact ⟨fun l => (hhold l).trans (congrArg _ (htimer l)), fun f => (hdrain f).trans (congrArg _ (hage f)), ls', fs', rfl⟩

/-- Settles O38: the tests of an advance, at the new tick. -/
theorem tickAdvances : Obligations.TickAdvances := by
  intro s hlive now test
  obtain ⟨hlanes, hframes, ls, fs, hall⟩ := testAll_eq { s with tick := s.tick + 1 }
  have hexec : exec .tickAdvance s = .next (testAll { s with tick := s.tick + 1 }) :=
    live_next (f := fun s => testAll { s with tick := s.tick + 1 }) s hlive
  refine ⟨testAll { s with tick := s.tick + 1 }, hexec, by rw [hall], fun l => hlanes l, fun f => hframes f, ?_⟩
  rw [hall]

/-! ## Writes of configuration items (R186) -/

/-- A value clamped to its item's range, in the words of R186. -/
theorem clampItem_eq (item : ConfigItem) (data : Word) :
    clampItem item data =
      if data.toNat < (itemRange item).1 then BitVec.ofNat 32 (itemRange item).1
      else if (itemRange item).2 < data.toNat then BitVec.ofNat 32 (itemRange item).2 else data := by
  have hrange : (itemRange item).1 ≤ (itemRange item).2 := by cases item <;> decide
  unfold clampItem
  split
  · next hlow => rw [Nat.max_eq_right hlow.le, Nat.min_eq_left hrange]
  next hlow =>
  rw [Nat.max_eq_left (Nat.not_lt.1 hlow)]
  split
  · next hhigh => rw [Nat.min_eq_right hhigh.le]
  · next hhigh => rw [Nat.min_eq_left (Nat.not_lt.1 hhigh), BitVec.ofNat_toNat, BitVec.setWidth_eq]

@[simp] theorem get_put_same (it : Items) (v : Word) (item : ConfigItem) : (it.put v item).get item = v := by
  cases item <;> rfl

theorem get_put_other (it : Items) (v : Word) {item k : ConfigItem} (h : k ≠ item) :
    (it.put v item).get k = it.get k := by
  cases item with
  | _ => cases k <;> first | rfl | exact absurd rfl h

/-- The layout items are those with codes below 0x30 (R186). -/
theorem isLayout_iff (item : ConfigItem) : isLayout item = true ↔ item.code.toNat < 0x30 := by cases item <;> decide

/-- The write of an item that is taken. -/
theorem writeItem_taken {item : ConfigItem} (h : isLayout item = false ∨ s.run.global = .config) (index : Byte)
    (data : Word) :
    writeItem item index data s =
      linkAnswer .ok item.code index (clampItem item data) (testKind item (putItem item (clampItem item data) s)) := by
  rw [writeItem, if_neg]
  rcases h with h | h <;> simp [h]

/-- The write of a layout item outside CONFIG. -/
theorem writeItem_refused {item : ConfigItem} (h : isLayout item = true) (hglobal : s.run.global ≠ .config) (index : Byte)
    (data : Word) :
    writeItem item index data s = linkAnswer .refusedState item.code index (s.items.get item) s := by
  rw [writeItem, if_pos (by simp [h, hglobal])]

/-! ## Writes of limits (R167) -/

/-- What the tests of one kind of deadline leave, at the limit that stands in its item (R162, R167). -/
theorem testKind_limit (item : LimitItem) (u : State) :
    (∀ l, (testKind item.configItem u).lane l = { u.lane l with
      timer := if item = .laneTimeout then
          (u.lane l).timer.map (Timer.test u.tick (if (u.lane l).firstWrite then (u.items.get item.configItem).toNat
            else 4 * (u.items.get item.configItem).toNat))
        else (u.lane l).timer
      held := if item = .holdTimeout then
          (u.lane l).held.map fun h => { h with timer := h.timer.test u.tick (u.items.get item.configItem).toNat }
        else (u.lane l).held }) ∧
    (∀ f, (testKind item.configItem u).frame f = { u.frame f with
      ageReported := (u.frame f).ageReported ||
        decide (item = .ageLimit ∧ (u.frame f).state = .opened ∧ u.items.get item.configItem ≠ 0 ∧
          (u.items.get item.configItem).toNat ≤ (u.tick - (u.frame f).openTick).toNat)
      drain := if item = .drainTimeout then
          (u.frame f).drain.map fun d =>
            { d with timer := d.timer.map (Timer.test u.tick (u.items.get item.configItem).toNat) }
        else (u.frame f).drain }) ∧
    ∃ ls fs, testKind item.configItem u = { u with lanes := ls, frames := fs } := by
  cases item with
  | ageLimit =>
    obtain ⟨htest, fs, hrest⟩ := forFrames_testAge u
    have hlane : ∀ l, (forFrames testAge u).lane l = u.lane l := fun l => by rw [hrest]; rfl
    refine ⟨hlane, fun f => (htest f).trans ?_, u.lanes, fs, hrest⟩
    simp only [Frame.ageTested, true_and]
    rfl
  | laneTimeout =>
    obtain ⟨htest, ls, hrest⟩ := forLanes_testLane u
    have hframe : ∀ f, (forLanes testLane u).frame f = u.frame f := fun f => by rw [hrest]; rfl
    refine ⟨htest, fun f => (hframe f).trans ?_, ls, u.frames, hrest⟩
    simp
  | holdTimeout =>
    obtain ⟨htest, ls, hrest⟩ := forLanes_testHold u
    have hframe : ∀ f, (forLanes testHold u).frame f = u.frame f := fun f => by rw [hrest]; rfl
    refine ⟨htest, fun f => (hframe f).trans ?_, ls, u.frames, hrest⟩
    simp
  | drainTimeout =>
    obtain ⟨htest, fs, hrest⟩ := forFrames_testDrain u
    have hlane : ∀ l, (forFrames testDrain u).lane l = u.lane l := fun l => by rw [hrest]; rfl
    refine ⟨hlane, fun f => (htest f).trans ?_, u.lanes, fs, hrest⟩
    simp [Frame.drainTested, Items.get, LimitItem.configItem]

/-- No limit is a layout item. -/
theorem isLayout_limit (item : LimitItem) : isLayout item.configItem = false := by cases item <;> rfl

/-- Settles O45: the clamped value is put, and the tests of its kind run on it. -/
theorem timerLimitWrites : Obligations.TimerLimitWrites := by
  intro s item index data hlive range lo hi v test
  have hv : clampItem item.configItem data = v := by
    rw [clampItem_eq]
    cases item <;> rfl
  obtain ⟨hlanes, hframes, ls, fs, hrest⟩ := testKind_limit item (putItem item.configItem v s)
  have hget : (putItem item.configItem v s).items.get item.configItem = v := get_put_same s.items v _
  rw [hget] at hlanes hframes
  have hexec : exec (.timerLimitWrite item index data) s =
      .next (linkAnswer .ok item.configItem.code index v (testKind item.configItem (putItem item.configItem v s))) := by
    have hwrite : exec (.timerLimitWrite item index data) s = .next (writeItem item.configItem index data s) :=
      live_next s hlive
    rw [hwrite, writeItem_taken (.inl (isLayout_limit item)), hv]
  refine ⟨_, hexec, ?_, fun k hk => ?_, rfl, hlanes, hframes, ?_⟩
  · rw [hrest]
    exact hget
  · rw [hrest]
    exact get_put_other s.items v hk
  · rw [hrest]
    rfl

/-! ## Writes of the other items (R186, R192, R104) -/

/-- The write of an item that is no limit tests no deadline. -/
theorem testKind_other {item : ConfigItem} (hage : item ≠ .ageLimit) (hlane : item ≠ .laneTimeout)
    (hhold : item ≠ .holdTimeout) (hdrain : item ≠ .drainTimeout) (u : State) : testKind item u = u := by
  cases item <;> first | contradiction | rfl

/-- ATTN# is low while a flag is set that its mask bit does not mask (R192). -/
theorem attnLow_iff (hlive : s.resetLow = false) :
    attnLow s = true ↔
      (s.attn.laneErr = true ∧ s.items.attnMask.getLsbD 0 = false) ∨
      (s.attn.imageFault = true ∧ s.items.attnMask.getLsbD 1 = false) ∨
      (s.attn.linkErr = true ∧ s.items.attnMask.getLsbD 2 = false) ∨
      (s.attn.frameShort = true ∧ s.items.attnMask.getLsbD 3 = false) ∨
      (s.attn.packHeld = true ∧ s.items.attnMask.getLsbD 4 = false) := by
  simp only [attnLow, masked, hlive, Bool.not_false, Bool.true_and, Bool.or_eq_true, Bool.and_eq_true, Bool.not_eq_true',
    or_assoc]

/-- Settles O44: each write by its clamped value. -/
theorem itemWrites : Obligations.ItemWrites := by
  refine ⟨fun item => by cases item <;> rfl, fun s index data hlive =>
    ⟨fun item hage hlane hhold hdrain => ?item, ?mask, ?select⟩⟩
  case item =>
    intro range lo hi v
    have hrange : itemRange item = range := by cases item <;> first | rfl | contradiction
    have hv : clampItem item data = v := by rw [clampItem_eq, hrange]
    have hexec : exec (.configItemWrite item index data) s = .next (writeItem item index data s) := live_next s hlive
    refine ⟨fun hcode hglobal => ?_, fun htaken => ⟨s.items.put v item, get_put_same .., fun k hk => get_put_other _ _ hk, ?_⟩⟩
    · rw [hexec, writeItem_refused ((isLayout_iff item).2 hcode) hglobal, linkAnswer_eq]
    · have hlayout : isLayout item = false ∨ s.run.global = .config := by
        refine htaken.imp_left fun hcode => ?_
        have hnot := mt (isLayout_iff item).1 (Nat.not_lt.2 hcode)
        simpa using hnot
      rw [hexec, writeItem_taken hlayout, testKind_other hage hlane hhold hdrain, hv, linkAnswer_eq]
      rfl
  case mask =>
    have hexec : exec (.attnMaskWrite index data) s = .next (writeItem .attnMask index data s) := live_next s hlive
    have hwrite := writeItem_taken (s := s) (item := .attnMask) (.inl rfl) index data
    have hclamp : (clampItem .attnMask data).toNat = min data.toNat 31 := by
      simp only [clampItem, itemRange, Nat.zero_le, Nat.max_eq_left, BitVec.toNat_ofNat]
      omega
    exact ⟨_, hexec.trans (congrArg _ hwrite), rfl, hclamp, attnLow_iff hlive⟩
  case select =>
    have hexec : exec (.indexSelect index data) s =
        .next (linkAnswer .ok 0x0E#8 index (Sys2Proof.Config.indexSelectData s.free) (selectEntry data s)) :=
      live_next (f := fun s => linkAnswer .ok 0x0E#8 index (Sys2Proof.Config.indexSelectData s.free) (selectEntry data s))
        s hlive
    refine ⟨_, selectionOf data, ?_, rfl, hexec⟩
    simp only [selectionOf, Fin.val_ofNat]
    omega

end Sys2Proof.Machine
end

section
/-! PROOFS. The frames of the management link, what their READs return, the resets, and the state after one: the settled
statements LinkFramesDecode (R182, R185), LinkFramesAnswered (R182 to R185, R203), ResetPin (R17, R181) and ResetIsSound. -/

namespace Sys2Proof.Machine

open Sys2Proof.Config

variable {s : State}

/-! ## Bits and bytes of a frame (R182) -/

/-- The bits of a run of bytes are read back as those bytes (R182). -/
@[simp] theorem bytesOfBits_bitsOfBytes (bs : List Byte) : bytesOfBits (bitsOfBytes bs) = bs := by
  induction bs with
  | nil => rfl
  | cons b bs ih => rw [bitsOfBytes, bytesOfBits_append, ih]

/-- Eight bits make a byte (R182). -/
theorem length_bytesOfBits (bits : List Bool) : (bytesOfBits bits).length = bits.length / 8 := by
  have hloose : (looseBits bits).length = bits.length % 8 := by
    rw [looseBits, List.length_drop]
    omega
  have hall := congrArg List.length (bitsOfBytes_looseBits bits)
  rw [List.length_append, length_bitsOfBytes, hloose] at hall
  omega

/-- The bit of a byte at a place of the wire (R182). -/
theorem getElem?_bitsOfByte (b : Byte) {n : Nat} (hn : n < 8) : (bitsOfByte b)[n]? = some (b.getLsbD (7 - n)) := by
  interval_cases n <;> rfl

/-- The bit of a run of bytes at a place of the wire; zeros after it (R184). -/
theorem getElem?_bitsOfBytes (bs : List Byte) (n : Nat) :
    ((bitsOfBytes bs)[n]?).getD false = (bs[n / 8]?.getD 0).getLsbD (7 - n % 8) := by
  induction bs generalizing n with
  | nil => simp [bitsOfBytes]
  | cons b bs ih =>
    have hlength : (bitsOfByte b).length = 8 := rfl
    rw [bitsOfBytes]
    by_cases hn : n < 8
    · rw [List.getElem?_append_left (by omega), getElem?_bitsOfByte b hn, Nat.div_eq_of_lt hn, Nat.mod_eq_of_lt hn]
      rfl
    · obtain ⟨m, rfl⟩ := Nat.exists_eq_add_of_le' (Nat.not_lt.1 hn)
      rw [List.getElem?_append_right (by omega), hlength, Nat.add_sub_cancel, ih, Nat.add_mod_right,
        Nat.add_div_right m (by decide), List.getElem?_cons_succ]

/-! ## The frame that spells a command (R183, R202) -/

/-- The four bytes of a data word, least significant first (R202). -/
theorem leBytes_word (x : Word) :
    leBytes 4 x.toNat = [x.extractLsb' 0 8, x.extractLsb' 8 8, x.extractLsb' 16 8, x.extractLsb' 24 8] := by
  have hbyte : ∀ k, BitVec.ofNat 8 (x.toNat / 2 ^ k) = x.extractLsb' k 8 := fun k => by
    apply BitVec.eq_of_toNat_eq
    rw [BitVec.toNat_ofNat, BitVec.extractLsb'_toNat, Nat.shiftRight_eq_div_pow]
  have h0 := hbyte 0
  rw [pow_zero, Nat.div_one] at h0
  simp only [leBytes, Nat.div_div_eq_div_mul, Nat.reduceMul]
  rw [h0, ← hbyte 8, ← hbyte 16, ← hbyte 24]
  simp only [Nat.reducePow]

/-- The request of a frame is the one that was encoded (R202). -/
theorem frameRequest_encodeRequest (r : LinkRequest) : frameRequest (encodeRequest r) = r := by
  obtain ⟨op, item, index, data⟩ := r
  have hdata : leField 3 4 (encodeRequest { op := op, item := item, index := index, data := data }) = data.toNat := by
    have hfield := leField_leBytes 4 data.toNat
    rw [toNat_mod_field data (by decide)] at hfield
    rw [encodeRequest, requestBytes, leField_append_left _ (by simp), leField_append_right _ (by simp)]
    simpa using hfield
  rw [frameRequest, hdata, BitVec.ofNat_toNat, BitVec.setWidth_eq]
  rfl

/-- The frame of a request passes the checks of R182 and R183. -/
theorem linkFrameBad_encodeRequest (r : LinkRequest) : linkFrameBad (bitsOfBytes (encodeRequest r)) = false := by
  have hlength : (requestBytes r).length = 7 := by simp [requestBytes]
  have htake : (encodeRequest r).take 7 = requestBytes r := by
    rw [encodeRequest, List.take_append_of_le_length hlength.ge, List.take_of_length_le hlength.le]
  have hlast : (encodeRequest r)[7]? = some (crc8 (requestBytes r)) := by
    rw [encodeRequest, List.getElem?_append_right hlength.le, hlength]
    rfl
  have hbytes : (encodeRequest r).length = 8 := by simp [encodeRequest, hlength]
  simp only [linkFrameBad, bytesOfBits_bitsOfBytes, htake, hlast, length_bitsOfBytes, hbytes]
  simp

/-- The request that spells a command decodes to it (R185, R186, R188). -/
theorem requestCommand_of_spelling (c : Instr) (r : LinkRequest) (h : linkRequestOf c = some r) : requestCommand r = c := by
  cases c with
  | badItem q => exact Laws.LinkSpelling.badItem q r h
  | configItemWrite item index data => exact Laws.LinkSpelling.configItemWrite item index data r h
  | timerLimitWrite item index data => exact Laws.LinkSpelling.timerLimitWrite item index data r h
  | attnMaskWrite index data => exact Laws.LinkSpelling.attnMaskWrite index data r h
  | indexSelect index data => exact Laws.LinkSpelling.indexSelect index data r h
  | attnCauseRead index => exact Laws.LinkSpelling.attnCauseRead index r h
  | sealNextPop => exact Laws.LinkSpelling.sealNextPop r h
  | start index => exact Laws.LinkSpelling.start index r h
  | stop index => exact Laws.LinkSpelling.stop index r h
  | halt index => exact Laws.LinkSpelling.halt index r h
  | enterConfig index => exact Laws.LinkSpelling.enterConfig index r h
  | resetCore index => exact Laws.LinkSpelling.resetCore index r h
  | flushClass index => exact Laws.LinkSpelling.flushClass index r h
  | release index => exact Laws.LinkSpelling.release index r h
  | discard index => exact Laws.LinkSpelling.discard index r h
  | redrain index => exact Laws.LinkSpelling.redrain index r h
  | _ => cases h

/-- Settles O54: the frame passes the checks, its request is read back, and the request decodes to the command. -/
theorem linkFramesDecode : Obligations.LinkFramesDecode := by
  intro c r hspells
  have hlength : (bitsOfBytes (encodeRequest r)).isEmpty = false := by simp [encodeRequest, requestBytes, bitsOfBytes, bitsOfByte]
  rw [decodeLinkFrame, hlength, linkFrameBad_encodeRequest, bytesOfBits_bitsOfBytes, frameRequest_encodeRequest,
    requestCommand_of_spelling c r hspells]
  rfl

/-! ## Frames discarded and requests refused (R180, R182, R185) -/

/-- A frame is discarded for a wrong byte count or a CRC that fails (R182, R183). -/
theorem linkFrameBad_iff (bits : List Bool) :
    linkFrameBad bits = true ↔
      bits.length ≠ 64 ∨ some (crc8 ((bytesOfBits bits).take 7)) ≠ (bytesOfBits bits)[7]? := by
  by_cases hlength : bits.length = 64
  · have hplace : 7 < (bytesOfBits bits).length := by
      rw [length_bytesOfBits, hlength]
      decide
    simp [linkFrameBad, hlength, hplace]
  · simp [linkFrameBad, hlength]

/-- The end of a frame, by the bits that it brought (R182). -/
theorem csRises_frame (bits : List Bool) :
    csRises (sckPulses bits (csFalls s)) =
      if (s.link.receiver ++ bits).isEmpty then { s with link := { s.link with receiver := [], sending := none } }
      else linkAnswering .badCrc ((bytesOfBits (s.link.receiver ++ bits))[1]?.getD 0)
        ((bytesOfBits (s.link.receiver ++ bits))[2]?.getD 0) 0 { s with attn := { s.attn with linkErr := true } } := by
  rw [csRises, frame_receiver, sckPulses_selected _ _ (by simp [csFalls])]
  rfl

/-- The meaning of LINK_FRAME_DISCARD (R182). -/
theorem exec_linkFrameDiscard_live (hlive : s.resetLow = false) (whole : List Byte) (loose : List Bool) :
    exec (.linkFrameDiscard whole loose) s = .next (
      if (s.link.receiver ++ (bitsOfBytes whole ++ loose)).isEmpty ||
          linkFrameBad (s.link.receiver ++ (bitsOfBytes whole ++ loose)) then
        csRises (sckPulses (bitsOfBytes whole ++ loose) (csFalls s))
      else s) := by
  have hexec : exec (.linkFrameDiscard whole loose) s = execLinkFrameDiscard whole loose s := rfl
  rw [hexec, execLinkFrameDiscard, live_next s hlive]
  simp only [frame_receiver]

/-- The meaning of BAD_ITEM for a request that R185 answers (R185). -/
theorem exec_badItem_answered (hlive : s.resetLow = false) {r : LinkRequest} {resp : LinkResp} {data : Word}
    (h : plainAnswer s r = some (resp, data)) :
    exec (.badItem r) s = .next (linkAnswering resp r.item r.index data s) := by
  have hexec : exec (.badItem r) s = execBadItem r s := rfl
  rw [hexec, execBadItem, live_next s hlive]
  simp only [h, linkAnswer_eq]

/-- The requests that R185 does not allow. -/
theorem plainAnswer_refused {r : LinkRequest}
    (h : (r.op = 1 ∧ readAllowed r.item r.index = false) ∨ (r.op = 2 ∧ writeAllowed r.item = false) ∨
      (r.op = 3 ∧ actAllowed r.item r.index = false) ∨ (r.op ≠ 1 ∧ r.op ≠ 2 ∧ r.op ≠ 3)) :
    plainAnswer s r = some (.badItem, 0) := by
  rcases h with ⟨hop, hitem⟩ | ⟨hop, hitem⟩ | ⟨hop, hitem⟩ | ⟨h1, h2, h3⟩
  · simp [plainAnswer, hop, hitem]
  · simp [plainAnswer, hop, hitem]
  · simp [plainAnswer, hop, hitem]
  · simp [plainAnswer, show r.op ≠ 1#8 from h1, show r.op ≠ 2#8 from h2, show r.op ≠ 3#8 from h3]

/-- A core reset shuts out every action (R180). -/
theorem takeAction_resetting (h : s.run.running = some .resetCore) (a : Action) (index : Byte) (f : State → State) :
    takeAction a index f s = linkAnswering .refusedBusy a.code index 0 s :=
  takeAction_refused index f (by rw [h]; rfl)

/-- The outgoing frame, in the words of R203. -/
theorem statusSummary_eq (s : State) :
    statusSummary s = BitVec.ofNat 8
      (s.attn.laneErr.toNat * 1 + s.attn.imageFault.toNat * 2 + s.attn.linkErr.toNat * 4 +
        s.attn.frameShort.toNat * 8 + s.attn.packHeld.toNat * 16 +
        32 * (match s.run.global with | .config => 0 | .running => 1 | .stopping => 2 | .stopped => 3) +
        128 * (if s.run.running = none then 0 else 1)) := by
  have hglobal : s.run.global.code = match s.run.global with | .config => 0 | .running => 1 | .stopping => 2 | .stopped => 3 := by
    cases s.run.global <;> rfl
  have hstage : stageCode s = if s.run.running = none then 0 else 1 := by
    cases hrun : s.run.running <;> simp [stageCode, hrun]
  rw [statusSummary, AttnFlags.weight_eq, hglobal, hstage]

/-- Settles O42: the frame's bits and bytes, the requests refused, the outgoing frame, the CRC and SDO. -/
theorem linkFramesAnswered : Obligations.LinkFramesAnswered := by
  refine ⟨fun s hlive => ⟨fun whole loose => ?discard, fun r hr => exec_badItem_answered hlive (plainAnswer_refused hr),
    fun hrun i => ?busy⟩, fun s => ?outgoing, ⟨rfl, fun bytes b => ?crc⟩, fun s bits hempty => ⟨fun hlow => ?low, fun hsending => ?sdo⟩⟩
  case discard =>
    intro bits bytes bad
    have hbad : linkFrameBad bits = true ↔ bad := linkFrameBad_iff bits
    rw [exec_linkFrameDiscard_live hlive, csRises_frame]
    refine ⟨fun hbits hb => ?_, fun hbits => ?_, fun hb => ?_⟩
    · have hsome : bits.isEmpty = false := by simpa using hbits
      rw [show s.link.receiver ++ (bitsOfBytes whole ++ loose) = bits from rfl, hsome, hbad.2 hb]
      rfl
    · have hreceiver : s.link.receiver = [] := (List.append_eq_nil_iff.1 hbits).1
      rw [show s.link.receiver ++ (bitsOfBytes whole ++ loose) = bits from rfl, hbits]
      exact congrArg (fun x => Host.Outcome.next { s with link := { s.link with receiver := x, sending := none } })
        hreceiver.symm
    · have hlength : bits.length = 64 := by
        by_contra hne
        exact hb (.inl hne)
      have hsome : bits.isEmpty = false := by
        rw [List.isEmpty_eq_false_iff_exists_mem]
        exact List.exists_mem_of_length_pos (by omega)
      rw [show s.link.receiver ++ (bitsOfBytes whole ++ loose) = bits from rfl, hsome, Bool.eq_false_iff.2 (mt hbad.1 hb)]
      rfl
  case busy =>
    intro busy
    have htake : ∀ a f, takeAction a i f s = linkAnswering .refusedBusy a.code i 0 s := fun a f =>
      takeAction_resetting hrun a i f
    have hlink : ∀ a f, live s (takeAction a i f) = .next (linkAnswering .refusedBusy a.code i 0 s) := fun a f =>
      (live_next s hlive).trans (congrArg _ (htake a f))
    refine ⟨hlink _ _, hlink _ _, hlink _ _, hlink _ _, hlink _ _, fun hi => ?_, hlink _ _, hlink _ _, hlink _ _⟩
    have hexec : exec (.flushClass i) s = execFlushClass i s := rfl
    rw [hexec, execFlushClass, live_next s hlive, if_neg (Nat.not_lt.2 hi), htake]
    rfl
  case outgoing =>
    intro flags global stage resp body
    have hbody : outgoingBody s = body := by
      have hresp : s.link.answer.resp.code = resp := by
        simp only [resp]
        cases s.link.answer.resp <;> rfl
      rw [outgoingBody, statusSummary_eq, hresp, leBytes_word]
      rfl
    rw [outgoingFrame, hbody]
  case crc =>
    rw [crc8, List.foldl_append]
    rfl
  case low =>
    refine sdo_resetLow _ ?_
    rw [sckPulses_selected _ _ (by simp [csFalls])]
    exact hlow
  case sdo =>
    refine ⟨sdo_unselected s hsending, sckPulses_unselected s bits hsending, by simp [hempty], ?_, fun hlive => ?_⟩
    · simp [outgoingFrame, outgoingBody]
    · rw [sckPulses_selected _ _ (by simp [csFalls])]
      simp only [sdo, csFalls, hlive, hsending, hempty, Bool.false_eq_true, if_false, Option.map_some, Option.getD_none,
        List.nil_append, getElem?_bitsOfBytes]

/-! ## The resets (R17, R181) -/

theorem live_low (h : s.resetLow = true) (f : State → State) : live s f = .next s := by simp [live, h]

theorem checked_low (h : s.resetLow = true) {ok : Bool} (hok : ok = true) (f : State → State) :
    checked ok s f = .next s := by simp [checked, hok, live_low h]

theorem answered_low (h : s.resetLow = true) (btag : Nat)
    (k : Outstanding → State → Host.Outcome State Fault Refusal) : answered btag s k = .next s := if_pos h

theorem withData_low {data : List Byte} (hwf : dataWf data = true) {o : Host.Outcome State Fault Refusal}
    (ho : o = .next s) : withData data o = .next s := by rw [withData, if_pos hwf, ho]

/-- While RESET# is low a command leaves the state (R181, log 8). -/
theorem exec_low {c : Instr} (hwf : c.wf = true) (hassert : c ≠ .resetAssert) (hhard : c ≠ .hardReset)
    (h : s.resetLow = true) : exec c s = .next s := by
  cases c with
  | resetAssert => exact absurd rfl hassert
  | hardReset => exact absurd rfl hhard
  | shapeCheckRefusal _ | plainRequest _ | frameRegionWrite _ | announce _ | controlAreaWrite _ | bodyWrite _ | statusRead _
  | mixedRead _ | bodyRead _ | frameRegionRead _ => exact checked_low h hwf _
  | plainBufferAnswer _ _ | bodyReadAnswer _ _ | drainReadOkay _ _ | passThroughAfterCoreReset _ _ =>
    exact withData_low hwf (answered_low h _ _)
  | bodyWriteOkay _ =>
    unfold exec execBodyWriteOkay
    exact answered_low h _ _
  | bodyWriteFault _ =>
    unfold exec execBodyWriteFault
    exact answered_low h _ _
  | drainReadFault _ =>
    unfold exec execDrainReadFault
    exact answered_low h _ _
  | fillBurstOkay _ =>
    unfold exec execFillBurstOkay
    exact answered_low h _ _
  | fillBurstFault _ =>
    unfold exec execFillBurstFault
    exact answered_low h _ _
  | tickAdvance =>
    unfold exec execTickAdvance
    exact live_low h _
  | badItem _ =>
    unfold exec execBadItem
    exact live_low h _
  | indexSelect _ _ =>
    unfold exec execIndexSelect
    exact live_low h _
  | attnCauseRead _ =>
    unfold exec execAttnCauseRead
    exact live_low h _
  | sealNextPop =>
    unfold exec execSealNextPop
    exact live_low h _
  | flushClass _ =>
    unfold exec execFlushClass
    exact live_low h _
  | lateAnswerDiscard btag =>
    have hexec : exec (.lateAnswerDiscard btag) s = execLateAnswerDiscard btag s := rfl
    rw [hexec, execLateAnswerDiscard, if_neg (by simp [h]), answered_low h]
  | _ => exact live_low h _

/-- Settles O53: RESET# low stills every command, and each reset is the model's own. -/
theorem resetPin : Obligations.ResetPin := fun s =>
  ⟨rfl, fun _ hwf hassert hhard hlow => exec_low hwf hassert hhard hlow,
    fun hlow => ⟨by simp [sealRdy, hlow], by simp [attnLow, hlow]⟩, rfl⟩

theorem cleared_reset : Cleared State.reset := ⟨reset_lane, reset_frame, reset_classFrame, rfl, rfl⟩

/-- Settles O60: a cleared state meets the invariants; every other value is the model's own. -/
theorem resetIsSound : Obligations.ResetIsSound := by
  have ⟨hqueue, hsums, htable, hlanes, hwithin⟩ := cleared_reset.sound (flux := none)
  refine ⟨hqueue, (lanesBut_none_iff _).1 hlanes, hsums, htable, nofun, ⟨Nat.zero_le _, Nat.zero_le _, hwithin⟩,
    ⟨List.nodup_nil, List.nodup_nil, List.nodup_nil⟩, rfl, cleared_reset.lane, cleared_reset.frame, rfl, rfl, rfl, rfl, rfl,
    rfl, rfl, rfl, rfl, rfl, rfl, rfl, rfl, rfl, cleared_reset.classFrame, rfl, rfl, rfl, rfl, rfl, rfl, rfl, rfl, rfl, rfl,
    fun c => ?_⟩
  cases c <;> rfl

end Sys2Proof.Machine
end

section
/-! PROOFS. What a READ without effect returns: the settled statement StatusItemsRead (R185 to R189, R134, R104, R105). -/

namespace Sys2Proof.Machine

open Sys2Proof.Config

variable {s : State}

/-! ## Words of a serial and of a number (R187) -/

theorem serialLow_eq (x : Serial) : serialLow x = x.extractLsb' 0 32 := by
  apply BitVec.eq_of_toNat_eq
  simp [serialLow, word]

theorem serialHigh_eq (x : Serial) : serialHigh x = (x.extractLsb' 32 16).setWidth 32 := by
  have hx : x.toNat < 2 ^ 48 := x.isLt
  apply BitVec.eq_of_toNat_eq
  simp only [serialHigh, word, BitVec.toNat_ofNat, BitVec.toNat_setWidth, BitVec.extractLsb'_toNat, Nat.shiftRight_eq_div_pow]
  omega

theorem word_toNat (x : Byte) : word x.toNat = x.setWidth 32 := by
  apply BitVec.eq_of_toNat_eq
  simp [word]

/-! ## Items by their codes (R185, R186) -/

/-- The code of a configuration item names it (R186). -/
@[simp] theorem configItemOf_code (c : ConfigItem) : configItemOf c.code = some c := by cases c <;> rfl

/-- A READ that is allowed and has no effect of its own is answered with the item's value (R185). -/
theorem plainAnswer_read {r : LinkRequest} (hop : r.op = 1) (hallowed : readAllowed r.item r.index = true)
    (hacts : readActs r.item r.index = false) : plainAnswer s r = some (.ok, readValue s r.item r.index) := by
  simp [plainAnswer, hop, hallowed, hacts]

/-! ## The indexed words of the status items (R187) -/

/-- The index of a frame's word names the frame and the word. -/
theorem frameIndex {index : Nat} {f : FrameNo} {w : Nat} (h : index = f.val + 8 * w) :
    Fin.ofNat 8 (index % 8) = f ∧ index / 8 = w := by
  subst h
  refine ⟨Fin.ext ?_, by omega⟩
  simp [Nat.mod_eq_of_lt f.isLt]

/-- The index of a lane's word names the lane and the word. -/
theorem laneIndex {index : Nat} {l : LaneNo} {w : Nat} (h : index = l.val + 16 * w) :
    Fin.ofNat 16 (index % 16) = l ∧ index / 16 = w := by
  subst h
  refine ⟨Fin.ext ?_, by omega⟩
  simp [Nat.mod_eq_of_lt l.isLt]

/-- FRAME_INFO's words (R189). -/
theorem readValue_frameInfo {index : Byte} {f : FrameNo} {w : Nat} (h : index.toNat = f.val + 8 * w) :
    readValue s 0x09 index = readFrameInfo (s.frame f) w := by
  obtain ⟨hframe, hword⟩ := frameIndex h
  have hvalue : readValue s 0x09 index =
      readFrameInfo (s.frame (Fin.ofNat 8 (index.toNat % 8))) (index.toNat / 8) := rfl
  rw [hvalue, hframe, hword]

/-- LANE_STATE's words. -/
theorem readValue_laneState {index : Byte} {l : LaneNo} {w : Nat} (h : index.toNat = l.val + 16 * w) :
    readValue s 0x0C index = readLaneState (s.lane l) w := by
  obtain ⟨hlane, hword⟩ := laneIndex h
  have hvalue : readValue s 0x0C index =
      readLaneState (s.lane (Fin.ofNat 16 (index.toNat % 16))) (index.toNat / 16) := rfl
  rw [hvalue, hlane, hword]

/-- LANE_COUNTERS' words (R39). -/
theorem readValue_laneCounter {index : Byte} {l : LaneNo} {c : Nat} (h : index.toNat = l.val + 16 * c) :
    readValue s 0x0D index = readLaneCounter (s.lane l) c := by
  obtain ⟨hlane, hword⟩ := laneIndex h
  have hvalue : readValue s 0x0D index =
      readLaneCounter (s.lane (Fin.ofNat 16 (index.toNat % 16))) (index.toNat / 16) := rfl
  rw [hvalue, hlane, hword]

/-- The index range of LANE_COUNTERS (R185). -/
theorem laneCounter_range {index : Byte} (h : readAllowed 0x0D index = true) : index.toNat ≤ 95 :=
  of_decide_eq_true h

/-- The flags word of an index entry (R105). -/
theorem entryFlags_eq (en : Entry) :
    en.flags = (if en.sumGiven then 1 else 0) + (if en.sealAfter then 2 else 0) + (if en.mismatch then 4 else 0) := by
  unfold Entry.flags
  cases en.sumGiven <;> cases en.sealAfter <;> cases en.mismatch <;> rfl

/-- INDEX_READ's word of a placed entry (R104, R105). -/
theorem readValue_index {en : Entry} (hentry : s.entry? s.sel.frame s.sel.entry = some en)
    (hfree : (s.frame s.sel.frame).state ≠ .free) (index : Byte) :
    readValue s 0x0F index = entryWord (s.frame s.sel.frame) en index.toNat := by
  have hvalue : readValue s 0x0F index = readIndexWord s index.toNat := rfl
  rw [hvalue, readIndexWord, if_neg (by simpa using hfree), hentry]

/-- INDEX_READ of a FREE frame or past the entries (R104). -/
theorem readValue_noIndex (h : (s.frame s.sel.frame).state = .free ∨ s.entry? s.sel.frame s.sel.entry = none)
    (index : Byte) : readValue s 0x0F index = 0 := by
  have hvalue : readValue s 0x0F index = readIndexWord s index.toNat := rfl
  rw [hvalue, readIndexWord]
  rcases h with h | h
  · rw [if_pos (by simpa using h)]
  · rw [h]
    split <;> rfl

/-- The digest's words of an index entry (R105). -/
theorem entryWord_digest (fr : Frame) (en : Entry) {k : Nat} (hk : k < 8) :
    entryWord fr en (15 + k) = en.digest.extractLsb' (32 * k) 32 := by
  interval_cases k <;> rfl

/-- Settles O43: each item's value, word by word. -/
theorem statusItemsRead : Obligations.StatusItemsRead := by
  intro s item index data hlive hallowed hacts actionCode low high
  have haction : ∀ a : Action, word a.code.toNat = actionCode a := fun a => by cases a <;> rfl
  refine ⟨readValue s item index, exec_badItem_answered hlive (plainAnswer_read rfl hallowed hacts),
    ?config, ?global, ?status, ?tick, ?counter, ?frameState, ?frameInfo, ?lastPop, ?noPop, ?laneState, ?laneCounter,
    ?selection, ?entry⟩
  case config =>
    rintro c rfl
    simp [readValue]
  case global =>
    rintro rfl
    have hvalue : readValue s 0x01 index = word s.run.global.code := rfl
    rw [hvalue]
    cases s.run.global <;> rfl
  case status =>
    rintro rfl
    have hvalue : readValue s 0x02 index = readActionStatus s index.toNat := rfl
    rw [hvalue]
    refine ⟨fun hi => ?_, fun hi => ?_, fun hi => ?_, fun hi => ?_⟩ <;> subst hi
    · have hstage : readActionStatus s 0 = word (stageCode s) := rfl
      refine hstage.trans ?_
      cases hrun : s.run.running <;> simp [stageCode, hrun, word]
    · have hrunning : readActionStatus s 1 = word ((s.run.running.map (·.code.toNat)).getD 0) := rfl
      refine hrunning.trans ?_
      cases s.run.running with
      | none => rfl
      | some a => exact haction a
    · have hlast : readActionStatus s 2 = word ((s.run.last.map (·.1.code)).getD 0) := rfl
      refine hlast.trans ?_
      cases s.run.last with
      | none => rfl
      | some x => obtain ⟨r, a⟩ := x; cases r <;> rfl
    · have hlast : readActionStatus s 3 = word ((s.run.last.map (·.2.code.toNat)).getD 0) := rfl
      refine hlast.trans ?_
      cases s.run.last with
      | none => rfl
      | some x => exact haction x.2
  case tick =>
    rintro rfl
    rfl
  case counter =>
    rintro rfl
    have hrange : index.toNat ≤ 3 := of_decide_eq_true hallowed
    have hvalue : readValue s 0x05 index = readGlobalCounter s index.toNat := rfl
    rw [hvalue]
    interval_cases index.toNat <;> rfl
  case frameState =>
    rintro f rfl hindex
    have hvalue : readValue s 0x08 index = word (s.frame (Fin.ofNat 8 index.toNat)).state.code := rfl
    rw [hvalue, ofNat_toNat_of_eq hindex]
    cases (s.frame f).state <;> rfl
  case frameInfo =>
    rintro f w rfl hindex
    rw [readValue_frameInfo hindex]
    refine ⟨fun hw => ?_, fun hw => ?_, fun hw => ?_, fun hw => ?_, fun hw => ?_, fun hw => ?_, fun hw => ?_,
      fun hw => ?_, fun hw => ?_⟩ <;> subst hw
    · exact serialLow_eq _
    · exact serialHigh_eq _
    · rfl
    · rfl
    · rfl
    · have hcause : readFrameInfo (s.frame f) 5 = word (((s.frame f).sealCause.map (·.code)).getD 0) := rfl
      refine hcause.trans ?_
      cases (s.frame f).sealCause with
      | none => rfl
      | some cause => cases cause <;> rfl
    · have hflags : readFrameInfo (s.frame f) 6 = word (s.frame f).infoFlags := rfl
      refine hflags.trans ?_
      rw [Frame.infoFlags]
      cases (s.frame f).imageFault <;> cases (s.frame f).cls <;> rfl
    · rfl
    · rfl
  case lastPop =>
    rintro p rfl hpop
    have hvalue : readValue s 0x0A index = readLastPop (some p) index.toNat := hpop ▸ rfl
    rw [hvalue]
    refine ⟨fun hi => ?_, fun hi => ?_, fun hi => ?_, fun hi => ?_⟩ <;> subst hi
    · rfl
    · exact serialLow_eq _
    · exact serialHigh_eq _
    · rfl
  case noPop =>
    rintro rfl hpop
    have hvalue : readValue s 0x0A index = readLastPop none index.toNat := hpop ▸ rfl
    have hone : index.toNat = 1 ↔ index = 1 := ⟨fun h => BitVec.eq_of_toNat_eq h, fun h => h ▸ rfl⟩
    simp only [hvalue, readLastPop, hone]
    rfl
  case laneState =>
    rintro l w rfl hindex
    rw [readValue_laneState hindex]
    refine ⟨fun hw => ?_, fun hw => ?_, fun hw => ?_, fun hw => ?_⟩ <;> subst hw
    · have hstate : readLaneState (s.lane l) 0 = word (s.lane l).state.code := rfl
      refine hstate.trans ?_
      cases (s.lane l).state <;> rfl
    · have hreason : readLaneState (s.lane l) 1 = word (((s.lane l).held.map (·.reason.code)).getD 0) := rfl
      refine hreason.trans ?_
      cases (s.lane l).held with
      | none => rfl
      | some h => cases h with | mk _ reason _ _ => cases reason <;> rfl
    · rfl
    · rfl
  case laneCounter =>
    rintro l c rfl hindex
    have hrange := laneCounter_range hallowed
    have hc : c ≤ 5 := by omega
    rw [readValue_laneCounter hindex]
    interval_cases c
    · rfl
    · rfl
    · rfl
    · rfl
    · rfl
    · exact word_toNat _
  case selection =>
    rintro rfl
    rfl
  case entry =>
    rintro rfl
    refine ⟨fun hfree => readValue_noIndex (.inl hfree) index, fun hnone => readValue_noIndex (.inr hnone) index,
      fun en hentry hfree => ?_⟩
    rw [readValue_index hentry hfree]
    refine ⟨fun hi => ?_, fun hi => hi ▸ rfl, fun hi => hi ▸ rfl, fun hi => ?_, fun hi => hi ▸ rfl, fun hi => hi ▸ rfl,
      fun hi => hi ▸ rfl, fun hi => ?_, fun hi => ?_, fun hi => hi ▸ rfl, fun hi => hi ▸ rfl, fun hi => hi ▸ rfl,
      fun hi => hi ▸ rfl, fun hi => hi ▸ rfl, fun hi => hi ▸ rfl, fun k hk hi => ?_, fun hi => ?_, fun hi => ?_⟩
    · subst hi
      have hstate : entryWord (s.frame s.sel.frame) en 0 = word en.state.code := rfl
      refine hstate.trans ?_
      cases en.state <;> rfl
    · subst hi
      exact congrArg word (entryFlags_eq en)
    · subst hi
      have hexpected : entryWord (s.frame s.sel.frame) en 7 = (en.expected.map (·.1)).getD 0 := rfl
      refine hexpected.trans ?_
      cases en.expected <;> rfl
    · subst hi
      have hexpected : entryWord (s.frame s.sel.frame) en 8 = (en.expected.map (·.2)).getD 0 := rfl
      refine hexpected.trans ?_
      cases en.expected <;> rfl
    · rw [hi, entryWord_digest _ _ hk]
    · subst hi
      exact serialLow_eq _
    · subst hi
      exact serialHigh_eq _

end Sys2Proof.Machine
end

section
/-! PROOFS. The two-term sum, and the claim ranges and extents of body writes: the settled statements SumsAddAndWithdraw (R81 to
R90), MergeKeepsExtents (R66, R68) and ForwardedPlanIsItsClaim (R64 to R68). -/

namespace Sys2Proof.Machine

open Sys2Proof.Config

/-! ## The two-term sum -/

theorem TwoSum.addByte_right_comm (x : TwoSum) (q r : Nat) (b c : Byte) :
    (x.addByte q b).addByte r c = (x.addByte r c).addByte q b := by
  simp only [TwoSum.addByte, Nat.mod_add_mod, Nat.add_right_comm]

/-- Taking the residue of `y` off `x` is undone by adding `y` (R90). -/
theorem sub_residue_add (x y : Nat) : ((x + (sumModulus - y % sumModulus)) % sumModulus + y) % sumModulus = x % sumModulus := by
  simp only [sumModulus]
  omega

/-- The difference of two residues is the one residue that adds up to the first. -/
theorem sub_residue_unique {x y z : Nat} (hz : z < sumModulus) (h : (z + y) % sumModulus = x % sumModulus) :
    (x + (sumModulus - y % sumModulus)) % sumModulus = z := by
  simp only [sumModulus] at *
  omega

/-- A byte lies at the same place of its word in the frame and in the body, as records start at multiples of 512 (R85). -/
theorem contribution_frame {off : Nat} (hoff : off % 512 = 0) (k : Nat) (b : Byte) :
    contribution (off + 64 + k) b = contribution k b := by
  have hplace : (off + 64 + k) % 4 = k % 4 := by omega
  rw [contribution, contribution, hplace]

/-- A byte added to the file sum and to the pack sum is withdrawn with the file (R89). -/
theorem withdraw_addByte {off : Nat} (hoff : off % 512 = 0) (pack file : TwoSum) (k : Nat) (b : Byte) :
    (pack.addByte (off + 64 + k) b).withdraw (file.addByte k b) ((off + 64) / 4) =
      pack.withdraw file ((off + 64) / 4) := by
  have hword : (off + 64 + k) / 4 + 1 = (off + 64) / 4 + (k / 4 + 1) := by omega
  have hpos : 0 < sumModulus := by decide
  simp only [TwoSum.withdraw, TwoSum.addByte, contribution_frame hoff, hword]
  generalize contribution k b = c
  generalize (off + 64) / 4 = w
  generalize k / 4 + 1 = v
  congr 1
  · refine sub_residue_unique (Nat.mod_lt _ hpos) ?_
    have hback : _ ≡ pack.a [MOD sumModulus] := sub_residue_add pack.a file.a
    generalize (pack.a + (sumModulus - file.a % sumModulus)) % sumModulus = z at hback ⊢
    calc z + (file.a + c) % sumModulus
        ≡ z + (file.a + c) [MOD sumModulus] := (Nat.mod_modEq _ _).add_left z
      _ = z + file.a + c := by ring
      _ ≡ pack.a + c [MOD sumModulus] := hback.add_right c
      _ ≡ (pack.a + c) % sumModulus [MOD sumModulus] := (Nat.mod_modEq _ _).symm
  · refine sub_residue_unique (Nat.mod_lt _ hpos) ?_
    have hback : _ ≡ pack.b [MOD sumModulus] := sub_residue_add pack.b (file.b + w * file.a)
    generalize (pack.b + (sumModulus - (file.b + w * file.a) % sumModulus)) % sumModulus = z at hback ⊢
    calc z + ((file.b + v * c) % sumModulus + w * ((file.a + c) % sumModulus))
        ≡ z + ((file.b + v * c) + w * (file.a + c)) [MOD sumModulus] :=
          ((Nat.mod_modEq _ _).add ((Nat.mod_modEq _ _).mul_left w)).add_left z
      _ = z + (file.b + w * file.a) + (w + v) * c := by ring
      _ ≡ pack.b + (w + v) * c [MOD sumModulus] := hback.add_right _
      _ ≡ (pack.b + (w + v) * c) % sumModulus [MOD sumModulus] := (Nat.mod_modEq _ _).symm

/-- So is a run of bytes (R89). -/
theorem withdraw_addBytes {off : Nat} (hoff : off % 512 = 0) (pack file : TwoSum) (k : Nat) (bytes : List (Option Byte)) :
    (pack.addBytes (off + 64 + k) bytes).withdraw (file.addBytes k bytes) ((off + 64) / 4) =
      pack.withdraw file ((off + 64) / 4) := by
  induction bytes generalizing pack file k with
  | nil => rfl
  | cons b bs ih =>
    cases b with
    | none => exact ih pack file (k + 1)
    | some b => exact (ih (pack.addByte _ b) (file.addByte k b) (k + 1)).trans (withdraw_addByte hoff pack file k b)

/-- Settles O29: additions commute modulo P, and what a withdrawal leaves is the one residue that the file's share completes. -/
theorem sumsAddAndWithdraw : Obligations.SumsAddAndWithdraw := by
  refine ⟨fun x q b => rfl, fun x ps qs hperm => ?_, fun pack file s => ?_, fun x s hx => ?_,
    fun pack file off k bytes hoff => withdraw_addBytes hoff pack file k bytes⟩
  · exact hperm.foldl_eq' (fun p _ r _ y => TwoSum.addByte_right_comm y _ _ _ _) x
  · have ⟨ha, hb⟩ := withdraw_inRange pack file s
    exact ⟨ha, hb, sub_residue_add pack.a file.a, sub_residue_add pack.b (file.b + s * file.a)⟩
  · obtain ⟨ha, hb⟩ := hx
    cases x
    simp only [TwoSum.withdraw, TwoSum.mk.injEq]
    exact ⟨sub_residue_unique ha rfl, sub_residue_unique hb (by simp)⟩

/-! ## Merging extents -/

/-- The extents are the same, or a byte lies between them (R66). -/
def Extent.Apart (x y : Extent) : Prop := x = y ∨ x.stop < y.start ∨ y.stop < x.start

/-- Any two extents of an extent list are apart (R66). -/
theorem apart_of_ascending {es : List Extent} (hes : es.Pairwise fun x y => x.stop < y.start) {x y : Extent} (hx : x ∈ es)
    (hy : y ∈ es) : x.Apart y :=
  have : Std.Symm Extent.Apart := ⟨fun _ _ h => h.imp Eq.symm Or.symm⟩
  List.Pairwise.forall_of_forall (fun _ _ => .inl rfl) (hes.imp fun h => .inr (.inl h)) hx hy

/-- The start of the merged extent: that of the extent that ends where the claim starts, if there is one (R68). -/
theorem merged_start (c : Extent) (es : List Extent) :
    (∃ x ∈ es, x.stop = c.start ∧ ((es.find? fun e => e.stop == c.start).map (·.start)).getD c.start = x.start) ∨
      ((es.find? fun e => e.stop == c.start).map (·.start)).getD c.start = c.start := by
  cases hfind : es.find? fun e => e.stop == c.start with
  | none => exact .inr rfl
  | some x => exact .inl ⟨x, List.mem_of_find?_eq_some hfind, by simpa using List.find?_some hfind, rfl⟩

/-- The end of the merged extent: that of the extent that starts where the claim ends, if there is one (R68). -/
theorem merged_stop (c : Extent) (es : List Extent) :
    (∃ x ∈ es, x.start = c.stop ∧ ((es.find? fun e => e.start == c.stop).map (·.stop)).getD c.stop = x.stop) ∨
      ((es.find? fun e => e.start == c.stop).map (·.stop)).getD c.stop = c.stop := by
  cases hfind : es.find? fun e => e.start == c.stop with
  | none => exact .inr rfl
  | some x => exact .inl ⟨x, List.mem_of_find?_eq_some hfind, by simpa using List.find?_some hfind, rfl⟩

/-- What the extent that ends at `a` adds below `a`. -/
theorem claimedBytes_ending {es : List Extent} (hes : es.Pairwise fun x y => x.stop < y.start)
    (hwf : ∀ x ∈ es, x.start < x.stop) (a : Nat) :
    claimedBytes (es.filter fun e => e.stop == a) = a - ((es.find? fun e => e.stop == a).map (·.start)).getD a := by
  induction es with
  | nil => simp [claimedBytes]
  | cons e rest ih =>
    obtain ⟨habove, hrest⟩ := List.pairwise_cons.1 hes
    by_cases he : e.stop = a
    · have hnone : rest.filter (fun e => e.stop == a) = [] := List.filter_eq_nil_iff.2 fun x hx => by
        have := habove x hx; have := hwf x (.tail _ hx); simp; omega
      simp [he, hnone, claimedBytes]
    · simpa [he] using ih hrest fun x hx => hwf x (.tail _ hx)

/-- What the extent that starts at `a` adds above `a`. -/
theorem claimedBytes_starting {es : List Extent} (hes : es.Pairwise fun x y => x.stop < y.start)
    (hwf : ∀ x ∈ es, x.start < x.stop) (a : Nat) :
    claimedBytes (es.filter fun e => e.start == a) = ((es.find? fun e => e.start == a).map (·.stop)).getD a - a := by
  induction es with
  | nil => simp [claimedBytes]
  | cons e rest ih =>
    obtain ⟨habove, hrest⟩ := List.pairwise_cons.1 hes
    by_cases he : e.start = a
    · have hnone : rest.filter (fun e => e.start == a) = [] := List.filter_eq_nil_iff.2 fun x hx => by
        have := habove x hx; have := hwf e (.head _); simp; omega
      simp [he, hnone, claimedBytes]
    · simpa [he] using ih hrest fun x hx => hwf x (.tail _ hx)

/-- The extents that a claim does not overlap end below it, touch it on one side, or start above it. -/
theorem claimedBytes_split {es : List Extent} {c : Extent} (hwf : ∀ x ∈ es, x.start < x.stop) (hc : c.start < c.stop)
    (hapart : ∀ x ∈ es, x.stop ≤ c.start ∨ c.stop ≤ x.start) :
    claimedBytes es = claimedBytes (es.filter fun e => decide (e.stop < c.start)) +
      claimedBytes (es.filter fun e => e.stop == c.start) + claimedBytes (es.filter fun e => e.start == c.stop) +
      claimedBytes (es.filter fun e => decide (c.stop < e.start)) := by
  induction es with
  | nil => rfl
  | cons e rest ih =>
    have hrest := ih (fun x hx => hwf x (.tail _ hx)) fun x hx => hapart x (.tail _ hx)
    have hcons : ∀ xs, claimedBytes (e :: xs) = (e.stop - e.start) + claimedBytes xs := fun xs => rfl
    have := hwf e (.head _)
    have := hapart e (.head _)
    simp only [List.filter_cons, decide_eq_true_eq, beq_iff_eq, apply_ite claimedBytes, hcons, hrest]
    split_ifs <;> omega

theorem overlaps_eq_false_iff {c : Extent} {es : List Extent} :
    overlaps c es = false ↔ ∀ x ∈ es, x.stop ≤ c.start ∨ c.stop ≤ x.start := by
  simp only [overlaps, List.any_eq_false, Bool.and_eq_true, decide_eq_true_eq]
  exact forall₂_congr fun x _ => by omega

/-- Settles O22: an extent that the claim does not touch lies below or above the merged one, and the lengths of the touched ones
go over into it. -/
theorem mergeKeepsExtents : Obligations.MergeKeepsExtents := by
  intro es c len hes hwf hc hlen hover
  have hapart := overlaps_eq_false_iff.1 hover
  have hpos : ∀ x ∈ es, x.start < x.stop := fun x hx => (hwf x hx).1
  have hending := claimedBytes_ending hes hpos c.start
  have hstarting := claimedBytes_starting hes hpos c.stop
  have hsplit := claimedBytes_split hpos hc hapart
  have hstart := merged_start c es
  have hstop := merged_stop c es
  simp only [mergeExtents]
  generalize ((es.find? fun e => e.stop == c.start).map (·.start)).getD c.start = start at hstart hending
  generalize ((es.find? fun e => e.start == c.stop).map (·.stop)).getD c.stop = stop at hstop hstarting
  have hstartle : start ≤ c.start := by
    rcases hstart with ⟨x, hx, hxc, rfl⟩ | rfl
    · have := hpos x hx; omega
    · exact le_rfl
  have hstople : c.stop ≤ stop ∧ stop ≤ len := by
    rcases hstop with ⟨x, hx, hxc, rfl⟩ | rfl
    · have := hwf x hx; omega
    · exact ⟨le_rfl, hlen⟩
  refine ⟨?pairwise, ?bounds, ?total⟩
  case pairwise =>
    have hbelow : ∀ x ∈ es, x.stop < c.start → x.stop < start := fun x hx hxc => by
      rcases hstart with ⟨y, hy, hyc, rfl⟩ | rfl
      · rcases apart_of_ascending hes hx hy with rfl | h | h
        · omega
        · exact h
        · have := hpos x hx; omega
      · exact hxc
    have habove : ∀ x ∈ es, c.stop < x.start → stop < x.start := fun x hx hxc => by
      rcases hstop with ⟨y, hy, hyc, rfl⟩ | rfl
      · rcases apart_of_ascending hes hx hy with rfl | h | h
        · omega
        · have := hpos x hx; omega
        · exact h
      · exact hxc
    rw [List.append_assoc, List.pairwise_append]
    refine ⟨hes.filter _, List.pairwise_cons.2 ⟨fun y hy => ?_, hes.filter _⟩, fun x hx y hy => ?_⟩
    · obtain ⟨hmem, hhigh⟩ := List.mem_filter.1 hy
      exact habove y hmem (of_decide_eq_true hhigh)
    · rw [List.mem_filter, decide_eq_true_eq] at hx
      have hxlow := hbelow x hx.1 hx.2
      rcases List.mem_cons.1 hy with rfl | hy
      · exact hxlow
      · have := of_decide_eq_true (List.mem_filter.1 hy).2
        omega
  case bounds =>
    intro x hx
    simp only [List.mem_append, List.mem_filter, List.mem_singleton] at hx
    rcases hx with (⟨hx, -⟩ | rfl) | ⟨hx, -⟩
    · exact hwf x hx
    · exact ⟨by show start < stop; omega, hstople.2⟩
    · exact hwf x hx
  case total =>
    have happend : ∀ xs ys, claimedBytes (xs ++ ys) = claimedBytes xs + claimedBytes ys := fun xs ys => by
      simp [claimedBytes]
    have hone : claimedBytes [{ start := start, stop := stop }] = stop - start := by simp [claimedBytes]
    rw [happend, happend, hone, hsplit, hending, hstarting]
    clear hstart hstop
    omega

/-! ## Claim ranges -/

/-- The bytes of a write that are carried: those below the body's end, in whole beats (R64). -/
theorem getElem?_clampBytes (len k : Nat) (bytes : List (Option Byte)) (i : Nat) :
    (clampBytes len k bytes)[i]? =
      if i < 8 * keptBeats len k bytes.length then bytes[i]?.map fun b => if k + i < len then b else none else none := by
  simp only [clampBytes, maskBytes_eq, List.getElem?_mapIdx, List.getElem?_take, decide_eq_true_eq, apply_ite (Option.map _),
    Option.map_none]

theorem length_clampBytes (len k : Nat) (bytes : List (Option Byte)) :
    (clampBytes len k bytes).length = 8 * keptBeats len k bytes.length := by
  have hbeats : keptBeats len k bytes.length ≤ bytes.length / 8 := by
    rw [keptBeats]
    split <;> omega
  simp only [clampBytes, maskBytes_eq, List.length_mapIdx, List.length_take]
  omega

/-- A byte of a write in whole beats that lies below the body's end is in a beat that is kept (R64). -/
theorem kept_of_below {len k i n : Nat} (hn : n % 8 = 0) (hi : i < n) (hlen : k + i < len) : i < 8 * keptBeats len k n := by
  rw [keptBeats, if_pos (by omega)]
  omega

/-- The positions of the bytes with their strobe set. -/
theorem mem_strobedAt {k q : Nat} {bytes : List (Option Byte)} :
    q ∈ strobedAt k bytes ↔ k ≤ q ∧ bytes[q - k]?.any Option.isSome = true := by
  induction bytes generalizing k with
  | nil => simp [strobedAt]
  | cons b bs ih =>
    rcases Nat.lt_trichotomy q k with hlt | rfl | hgt
    · cases b <;> simp [strobedAt, ih] <;> omega
    · cases b <;> simp [strobedAt, ih]
    · have hsucc : q - k = q - (k + 1) + 1 := by omega
      have hle : k + 1 ≤ q ↔ k ≤ q := by omega
      cases b <;> simp [strobedAt, ih, hsucc, hle, Nat.ne_of_gt hgt]

/-- Those positions ascend. -/
theorem strobedAt_pairwise (k : Nat) (bytes : List (Option Byte)) : (strobedAt k bytes).Pairwise (· < ·) := by
  induction bytes generalizing k with
  | nil => exact .nil
  | cons b bs ih =>
    cases b with
    | none => exact ih (k + 1)
    | some b => exact List.pairwise_cons.2 ⟨fun q hq => (mem_strobedAt.1 hq).1, ih (k + 1)⟩

/-- The bytes of a write in range: strobed, and below the body's end (R64). -/
theorem mem_strobed_clampBytes {len k q : Nat} {bytes : List (Option Byte)} (hbytes : bytes.length % 8 = 0) :
    q ∈ strobedAt k (clampBytes len k bytes) ↔ k ≤ q ∧ q < len ∧ bytes[q - k]?.any Option.isSome = true := by
  rw [mem_strobedAt, getElem?_clampBytes]
  refine and_congr_right fun hk => ?_
  have hq : k + (q - k) = q := by omega
  cases hb : bytes[q - k]? with
  | none => simp
  | some b =>
    have hlt : q - k < bytes.length := (List.getElem?_eq_some_iff.1 hb).1
    by_cases hlen : q < len
    · have := kept_of_below (k := k) hbytes hlt (by omega : k + (q - k) < len)
      simp [this, hq, hlen]
    · simp only [hq, hlen, Option.map_some, if_false, false_and, iff_false]
      split <;> simp

/-- An ascending list reaches the number that its length gives exactly when it leaves out none. -/
theorem last_eq_iff_range' {q : Nat} {qs : List Nat} (h : (q :: qs).Pairwise (· < ·)) :
    q + qs.length ≤ qs.getLastD q ∧ (qs.getLastD q = q + qs.length ↔ q :: qs = List.range' q (qs.length + 1)) := by
  induction qs generalizing q with
  | nil => simp
  | cons r rs ih =>
    obtain ⟨hq, hrest⟩ := List.pairwise_cons.1 h
    have hr : q < r := hq r (.head _)
    obtain ⟨hle, hiff⟩ := ih hrest
    rw [List.getLastD_cons, List.length_cons, List.range'_succ, List.cons.injEq]
    refine ⟨by omega, fun hlast => ⟨rfl, ?_⟩, fun ⟨_, hrange⟩ => ?_⟩
    · have hnext : q + 1 = r := by omega
      rw [hnext]
      exact hiff.1 (by omega)
    · have hnext : r = q + 1 := by simpa [List.range'_succ] using (List.cons.inj hrange).1
      rw [← hnext] at hrange
      have := hiff.2 hrange
      omega

/-- The claim range of a write: the bytes in range, when they are one unbroken range (R65, R67). -/
def Spans (len k : Nat) (bytes : List (Option Byte)) (c : Extent) : Prop :=
  c.start < c.stop ∧ ∀ q, (k ≤ q ∧ q < len ∧ bytes[q - k]?.any Option.isSome = true) ↔ c.start ≤ q ∧ q < c.stop

theorem claimRange_eq_some_iff {len k : Nat} {bytes : List (Option Byte)} (hbytes : bytes.length % 8 = 0) {c : Extent} :
    claimRange len k bytes = some c ↔ Spans len k bytes c := by
  have hmem := fun q => mem_strobed_clampBytes (len := len) (k := k) (q := q) hbytes
  have hasc := strobedAt_pairwise k (clampBytes len k bytes)
  rw [claimRange, Spans]
  cases hqs : strobedAt k (clampBytes len k bytes) with
  | nil =>
    simp only [hqs, List.not_mem_nil, false_iff] at hmem
    refine ⟨nofun, fun ⟨hc, hspan⟩ => absurd ((hspan c.start).2 ⟨le_rfl, hc⟩) (hmem _)⟩
  | cons q qs =>
    rw [hqs] at hmem hasc
    obtain ⟨-, hlast⟩ := last_eq_iff_range' hasc
    simp only [beq_iff_eq, Option.ite_none_right_eq_some, Option.some.injEq, hlast]
    constructor
    · rintro ⟨hrange, rfl⟩
      refine ⟨by show q < q + qs.length + 1; omega, fun p => ?_⟩
      rw [← hmem, hrange, List.mem_range'_1, Nat.add_assoc]
    · rintro ⟨hc, hspan⟩
      have hrange : q :: qs = List.range' c.start (c.stop - c.start) :=
        hasc.eq_of_mem_iff (List.pairwise_lt_range' ..) fun p => by
          rw [hmem, hspan, List.mem_range'_1]
          omega
      have hlen : c.stop - c.start = qs.length + 1 := by simpa using (congrArg List.length hrange).symm
      have hstart : q = c.start := by simpa [hlen, List.range'_succ] using (List.cons.inj (hlen ▸ hrange)).1
      rw [hlen, ← hstart] at hrange
      refine ⟨hrange, ?_⟩
      cases c
      simp only [Extent.mk.injEq] at *
      omega

theorem nothingInRange_iff {len k : Nat} {bytes : List (Option Byte)} (hbytes : bytes.length % 8 = 0) :
    nothingInRange len k bytes = true ↔ ∀ q, ¬ (k ≤ q ∧ q < len ∧ bytes[q - k]?.any Option.isSome = true) := by
  simp only [nothingInRange, List.isEmpty_iff, List.eq_nil_iff_forall_not_mem, mem_strobed_clampBytes hbytes]

/-- A write with a claim range goes by the overlap and by the number of extents after merging (R67, R68). -/
theorem bodyPlan_of_spans {len k : Nat} {bytes : List (Option Byte)} (hbytes : bytes.length % 8 = 0) {c : Extent}
    (hc : Spans len k bytes c) (es : List Extent) :
    bodyPlan len es k bytes =
      if overlaps c es = true ∨ 8 < (mergeExtents c es).length then .refused
      else .forward (clampBytes len k bytes) c (mergeExtents c es) := by
  have hsome : nothingInRange len k bytes = false := by
    rw [Bool.eq_false_iff, Ne, nothingInRange_iff hbytes]
    exact fun hnone => hnone c.start ((hc.2 c.start).2 ⟨le_rfl, hc.1⟩)
  rw [bodyPlan, hsome, (claimRange_eq_some_iff hbytes).2 hc]
  simp only [Bool.false_eq_true, if_false, extentCapacity]
  cases overlaps c es with
  | true => rfl
  | false => by_cases hmany : 8 < (mergeExtents c es).length <;> simp [hmany]

/-- A write whose bytes in range are no unbroken range is refused (R67). -/
theorem bodyPlan_of_broken {len k : Nat} {bytes : List (Option Byte)} (hbytes : bytes.length % 8 = 0)
    (hsome : nothingInRange len k bytes = false) (hbroken : ∀ c, ¬ Spans len k bytes c) (es : List Extent) :
    bodyPlan len es k bytes = .refused := by
  have hnone : claimRange len k bytes = none :=
    Option.eq_none_iff_forall_ne_some.2 fun c hc => hbroken c ((claimRange_eq_some_iff hbytes).1 hc)
  rw [bodyPlan, hsome, hnone]
  rfl

/-- A forwarded write has a claim range. -/
theorem bodyPlan_forward {len k : Nat} {es es' : List Extent} {bytes fwd : List (Option Byte)} {c : Extent}
    (hbytes : bytes.length % 8 = 0) (hplan : bodyPlan len es k bytes = .forward fwd c es') :
    Spans len k bytes c ∧ overlaps c es = false ∧ (mergeExtents c es).length ≤ 8 ∧ fwd = clampBytes len k bytes ∧
      es' = mergeExtents c es := by
  cases hnothing : nothingInRange len k bytes with
  | true => simp [bodyPlan, hnothing] at hplan
  | false =>
    by_cases hspan : ∃ d, Spans len k bytes d
    · obtain ⟨d, hd⟩ := hspan
      rw [bodyPlan_of_spans hbytes hd] at hplan
      split at hplan
      case isTrue => cases hplan
      case isFalse h =>
        cases hplan
        exact ⟨hd, by simpa using (not_or.1 h).1, Nat.not_lt.1 (not_or.1 h).2, rfl, rfl⟩
    · rw [bodyPlan_of_broken hbytes hnothing (not_exists.1 hspan)] at hplan
      cases hplan

/-- Settles O21: the plan goes by whether the bytes in range are none, broken, or one claim range. -/
theorem forwardedPlanIsItsClaim : Obligations.ForwardedPlanIsItsClaim := by
  intro len k es bytes hbytes inRange spans
  refine ⟨fun hnone => ?noted, fun hsome hbroken => ?broken, fun c hc hover => ?overlapping, fun c hc hmany => ?ninth,
    fun c hc hapart hfew => ⟨clampBytes len k bytes, ?forwarded⟩, fun fwd c es' hplan => ?carried⟩
  case noted =>
    rw [bodyPlan, (nothingInRange_iff hbytes).2 hnone]
    rfl
  case broken =>
    obtain ⟨q, hq⟩ := hsome
    refine bodyPlan_of_broken hbytes ?_ hbroken es
    rw [Bool.eq_false_iff, Ne, nothingInRange_iff hbytes]
    exact fun hnone => hnone q hq
  case overlapping =>
    have hoverlaps : overlaps c es = true := by simpa [overlaps] using hover
    rw [bodyPlan_of_spans hbytes hc, if_pos (.inl hoverlaps)]
  case ninth => rw [bodyPlan_of_spans hbytes hc, if_pos (.inr hmany)]
  case forwarded =>
    rw [bodyPlan_of_spans hbytes hc, overlaps_eq_false_iff.2 hapart, if_neg (by simpa using hfew)]
  case carried =>
    obtain ⟨hc, hover, hfew, rfl, rfl⟩ := bodyPlan_forward hbytes hplan
    have hlength := length_clampBytes len k bytes
    have hkept : 8 * keptBeats len k bytes.length ≤ bytes.length := by
      have : keptBeats len k bytes.length ≤ bytes.length / 8 := by rw [keptBeats]; split <;> omega
      omega
    have hbyte : ∀ i, (clampBytes len k bytes)[i]?.any Option.isSome = true ↔ c.start ≤ k + i ∧ k + i < c.stop := fun i => by
      rw [← hc.2, ← mem_strobed_clampBytes hbytes, mem_strobedAt, Nat.add_sub_cancel_left]
      simp
    have hstart := (hc.2 c.start).2 ⟨le_rfl, hc.1⟩
    have hlast := (hc.2 (c.stop - 1)).2 (by have := hc.1; omega)
    have hlastlt : c.stop - 1 - k < (clampBytes len k bytes).length := by
      have hcarried := (hbyte (c.stop - 1 - k)).2 (by have := hc.1; omega)
      by_contra hge
      rw [List.getElem?_eq_none (Nat.not_lt.1 hge)] at hcarried
      cases hcarried
    refine ⟨hc, by omega, hstart.1, by omega, by omega, by omega, rfl, hfew, overlaps_eq_false_iff.1 hover,
      fun i hi hlen => ?_, fun i hi hlen => ?_, fun i _ => hbyte i⟩
    · have := kept_of_below hbytes hi hlen
      refine ⟨by omega, ?_⟩
      rw [getElem?_clampBytes, if_pos this]
      simp [hlen]
    · rw [getElem?_clampBytes, if_pos (by omega), List.getElem?_eq_getElem (by omega), Option.map_some,
        if_neg (Nat.not_lt.2 hlen)]

end Sys2Proof.Machine
end

section
/-! PROOFS. What a fill burst carries: the settled statement BurstsStayInTheirBlock (R112, R116 to R118, R198 to R201). -/

namespace Sys2Proof.Machine

open Sys2Proof.Config

variable {s : State}

/-! ## The cut of a job into bursts -/

/-- A burst takes at least one byte and ends in the job's range, in its aligned block and in its phase (R112). -/
theorem burstEnd_bounds {j : Job} {p : Nat} (hp : p < j.stop) :
    p < j.burstEnd p ∧ j.burstEnd p ≤ j.stop ∧ j.burstEnd p ≤ (p / 128 + 1) * 128 ∧
      (j.kind = .directory → p < j.stop - 64 → j.burstEnd p ≤ j.stop - 64) := by
  rw [Job.burstEnd, Job.phaseEnd, Job.trailerStart]
  by_cases h : j.kind = .directory ∧ p < j.stop - 64
  · rw [if_pos h]
    omega
  · rw [if_neg h]
    exact ⟨by omega, by omega, by omega, fun hkind hlow => absurd ⟨hkind, hlow⟩ h⟩

theorem length_burstBytes (s : State) (j : Job) (p q : Nat) :
    (burstBytes s j p q).length = (q + 7) / 8 * 8 - p / 8 * 8 := by
  simp [burstBytes]

/-- The bytes of a burst, from the beat of its first byte on (R112). -/
theorem getElem?_burstBytes (s : State) (j : Job) (p q i : Nat) :
    (burstBytes s j p q)[i]? =
      if i < (q + 7) / 8 * 8 - p / 8 * 8 then
        some (if p ≤ p / 8 * 8 + i ∧ p / 8 * 8 + i < q then some (jobByte s j (p / 8 * 8 + i)) else none)
      else none := by
  rw [burstBytes, List.getElem?_map]
  split
  case isTrue h => rw [List.getElem?_range h, Option.map_some]
  case isFalse h => rw [List.getElem?_eq_none (by simpa using h), Option.map_none]

/-! ## The records that the jobs write -/

theorem byteAt_eq (rec : List Byte) (i : Nat) : byteAt rec i = rec.getD i 0 := (List.getD_eq_getElem?_getD ..).symm

theorem jobByte_zeros {j : Job} (h : j.source = .zeros) (q : Nat) : jobByte s j q = 0 := by
  simp [jobByte, h]

theorem jobByte_packHead {j : Job} {serial : Serial} {c : ClassNo} {code : Word} {now : Tick}
    (h : j.source = .packHead serial c code now) (i : Nat) :
    jobByte s j (j.start + i) = (packHeadRecord j.frame serial c code now).getD i 0 := by
  simp [jobByte, h, byteAt_eq]

theorem jobByte_fileHead {j : Job} {e : Nat} {en : Entry} (h : j.source = .fileHead e) (hentry : s.entry? j.frame e = some en)
    (i : Nat) : jobByte s j (j.start + i) = (fileHeadRecord e en (s.frame j.frame).serial).getD i 0 := by
  simp [jobByte, h, hentry, byteAt_eq]

section directory
variable {j : Job} {cursor n il : Nat} {serial : Serial}

/-- Below the trailer a DIRECTORY job writes the directory entries of its frame (R118). -/
theorem jobByte_entry (h : j.source = .directory cursor n il serial) {i k : Nat} {en : Entry} (hi : i < n)
    (hentry : s.entry? j.frame i = some en) (hbelow : cursor + 64 * i + 64 ≤ il - 64) (hk : k < 64) :
    jobByte s j (cursor + 64 * i + k) = (directoryRecord en).getD k 0 := by
  have hlow : ¬ il - 64 ≤ cursor + 64 * i + k := by omega
  have hindex : (cursor + 64 * i + k - cursor) / 64 = i := by omega
  have hplace : (cursor + 64 * i + k - cursor) % 64 = k := by omega
  simp only [jobByte, h, directoryByte, hlow, hindex, hplace, hi, hentry, byteAt_eq, if_true, if_false]

theorem jobByte_directoryPad (h : j.source = .directory cursor n il serial) {q : Nat} (hq : cursor + 64 * n ≤ q)
    (hbelow : q < il - 64) : jobByte s j q = 0 := by
  have hlow : ¬ il - 64 ≤ q := by omega
  have hindex : ¬ (q - cursor) / 64 < n := by omega
  simp only [jobByte, h, directoryByte, hlow, hindex, if_false]

theorem jobByte_trailer (h : j.source = .directory cursor n il serial) (k : Nat) :
    jobByte s j (il - 64 + k) = (trailerRecord serial n cursor il (s.frame j.frame).sums).getD k 0 := by
  simp [jobByte, h, directoryByte, byteAt_eq]

end directory

theorem packHeadRecord_fields (f : FrameNo) (serial : Serial) (c : ClassNo) (code : Word) (now : Tick) :
    (packHeadRecord f serial c code now).length = 64 ∧ leField 0 4 (packHeadRecord f serial c code now) = 0x6E21A0D7 ∧
      leField 4 1 (packHeadRecord f serial c code now) = 1 ∧ leField 5 1 (packHeadRecord f serial c code now) = f.val ∧
      leField 6 1 (packHeadRecord f serial c code now) = code.toNat % 256 ∧
      leField 7 1 (packHeadRecord f serial c code now) = c.val ∧
      leField 8 6 (packHeadRecord f serial c code now) = serial.toNat ∧
      leField 14 2 (packHeadRecord f serial c code now) = 0 ∧
      leField 16 4 (packHeadRecord f serial c code now) = now.toNat ∧
      leField 20 44 (packHeadRecord f serial c code now) = 0 := by
  have hf := f.isLt
  have hc := c.isLt
  simp [packHeadRecord, packHeadMarker, packHeadVersion]
  omega

theorem fileHeadRecord_fields (e : Nat) (en : Entry) (serial : Serial) :
    (fileHeadRecord e en serial).length = 64 ∧ leField 0 2 (fileHeadRecord e en serial) = e % 65536 ∧
      leField 2 1 (fileHeadRecord e en serial) =
        en.lane.val + 16 * en.cls.val + 64 * en.sumGiven.toNat + 128 * en.sealAfter.toNat ∧
      leField 3 3 (fileHeadRecord e en serial) = en.off / 512 % 16777216 ∧
      leField 6 2 (fileHeadRecord e en serial) = serial.toNat % 65536 ∧
      leField 8 4 (fileHeadRecord e en serial) = en.len % 4294967296 ∧
      leField 12 4 (fileHeadRecord e en serial) = en.arrival.toNat ∧
      leField 16 4 (fileHeadRecord e en serial) = (en.expected.map (·.1.toNat)).getD 0 % 4294967296 ∧
      leField 20 4 (fileHeadRecord e en serial) = (en.expected.map (·.2.toNat)).getD 0 % 4294967296 ∧
      leField 24 8 (fileHeadRecord e en serial) = en.wtag.toNat ∧
      leField 32 32 (fileHeadRecord e en serial) = en.digest.toNat := by
  have hlane := en.lane.isLt
  have hcls := en.cls.isLt
  have hsum := en.sumGiven.toNat_le
  have hseal := en.sealAfter.toNat_le
  simp [fileHeadRecord]
  omega

/-- A word of the record of an entry that may have none. -/
theorem optional_word {x : Option (Word × Word)} {f : Word × Word → Word} :
    (x.map fun y => (f y).toNat).getD 0 % 4294967296 = (x.map fun y => (f y).toNat).getD 0 := by
  cases x with
  | none => rfl
  | some y => exact Nat.mod_eq_of_lt (f y).isLt

theorem directoryRecord_fields (en : Entry) :
    (directoryRecord en).length = 64 ∧ leField 0 1 (directoryRecord en) = en.state.code ∧
      leField 1 1 (directoryRecord en) = en.sumGiven.toNat + 2 * en.sealAfter.toNat + 4 * en.mismatch.toNat ∧
      leField 2 1 (directoryRecord en) = en.cls.val ∧ leField 3 1 (directoryRecord en) = en.lane.val ∧
      leField 4 4 (directoryRecord en) = en.off % 4294967296 ∧
      leField 8 4 (directoryRecord en) = en.len % 4294967296 ∧
      leField 12 4 (directoryRecord en) = en.received % 4294967296 ∧
      leField 16 4 (directoryRecord en) = (if en.state = .void then 0 else en.sums.a % 4294967296) ∧
      leField 20 4 (directoryRecord en) = (if en.state = .void then 0 else en.sums.b % 4294967296) ∧
      leField 24 4 (directoryRecord en) = en.arrival.toNat ∧
      leField 28 4 (directoryRecord en) = (en.endTick.map (·.toNat)).getD 0 % 4294967296 ∧
      leField 32 8 (directoryRecord en) = en.wtag.toNat ∧
      leField 40 16 (directoryRecord en) = en.digest.toNat % 2 ^ 128 ∧ leField 56 8 (directoryRecord en) = 0 := by
  have hlane := en.lane.isLt
  have hcls := en.cls.isLt
  have hsum := en.sumGiven.toNat_le
  have hseal := en.sealAfter.toNat_le
  have hmismatch := en.mismatch.toNat_le
  have hcode : en.state.code < 256 := by cases en.state <;> decide
  have ha : en.listedSums.a % 4294967296 = if en.state = .void then 0 else en.sums.a % 4294967296 := by
    by_cases h : en.state = .void <;> simp [Entry.listedSums, h, TwoSum.zero]
  have hb : en.listedSums.b % 4294967296 = if en.state = .void then 0 else en.sums.b % 4294967296 := by
    by_cases h : en.state = .void <;> simp [Entry.listedSums, h, TwoSum.zero]
  simp [directoryRecord, Entry.flags, ha, hb]
  omega

theorem trailerRecord_fields (serial : Serial) (n cursor il : Nat) (sums : TwoSum) :
    (trailerRecord serial n cursor il sums).length = 64 ∧
      leField 0 4 (trailerRecord serial n cursor il sums) = 0x6E21A0E9 ∧
      leField 4 6 (trailerRecord serial n cursor il sums) = serial.toNat ∧
      leField 10 2 (trailerRecord serial n cursor il sums) = n % 65536 ∧
      leField 12 4 (trailerRecord serial n cursor il sums) = cursor % 4294967296 ∧
      leField 16 4 (trailerRecord serial n cursor il sums) = il % 4294967296 ∧
      leField 20 4 (trailerRecord serial n cursor il sums) = sums.a % 4294967296 ∧
      leField 24 4 (trailerRecord serial n cursor il sums) = sums.b % 4294967296 ∧
      leField 28 36 (trailerRecord serial n cursor il sums) = 0 := by
  simp [trailerRecord, trailerMarker]
  omega

/-- Settles O7: the cut of a job is arithmetic on its range, and each byte is that of the record its job writes. -/
theorem burstsStayInTheirBlock : Obligations.BurstsStayInTheirBlock := by
  refine ⟨fun s j p hp => ?cut, fun s j h => jobByte_zeros h, fun s j serial c code now h => ?packHead,
    fun s j e en h hentry => ?fileHead,
    fun s j cursor n il serial h => ⟨fun i en hi hentry hbelow => ?entry, fun q => jobByte_directoryPad h, ?trailer⟩⟩
  case cut =>
    obtain ⟨hsome, hstop, hblock, hphase⟩ := burstEnd_bounds hp
    have hlength := length_burstBytes s j p (j.burstEnd p)
    refine ⟨hphase, hsome, hstop, hblock, by omega, by omega, by omega, fun i hi => ?_, rfl, fun q hlo hhi => ?_⟩
    · rw [getElem?_burstBytes, if_pos (by omega), Option.any_some]
      split <;> simp_all
    · have hq : p / 8 * 8 + (q - p / 8 * 8) = q := by omega
      rw [getElem?_burstBytes, if_pos (by omega), hq, if_pos ⟨hlo, hhi⟩]
  case packHead =>
    obtain ⟨hlength, hfields⟩ := packHeadRecord_fields j.frame serial c code now
    exact ⟨_, hlength, jobByte_packHead h, hfields⟩
  case fileHead =>
    obtain ⟨hlength, hindex, hflags, hoff, hserial, hlen, harrival, ha, hb, hfields⟩ :=
      fileHeadRecord_fields e en (s.frame j.frame).serial
    rw [optional_word] at ha hb
    refine ⟨_, hlength, jobByte_fileHead h hentry, hindex, hflags, hoff, hserial, hlen, harrival, ha.trans ?_, hb.trans ?_,
      hfields⟩
    · cases en.expected <;> rfl
    · cases en.expected <;> rfl
  case entry =>
    obtain ⟨hlength, hstate, hflags, hcls, hlane, hoff, hlen, hreceived, ha, hb, harrival, hend, hfields⟩ :=
      directoryRecord_fields en
    refine ⟨_, hlength, fun k => jobByte_entry h hi hentry hbelow, hstate.trans ?_, hflags, hcls, hlane, hoff, hlen, hreceived,
      ha, hb, harrival, hend.trans ?_, hfields⟩
    · cases en.state <;> rfl
    · cases en.endTick with
      | none => rfl
      | some x => exact Nat.mod_eq_of_lt x.isLt
  case trailer =>
    obtain ⟨hlength, hfields⟩ := trailerRecord_fields serial n cursor il (s.frame j.frame).sums
    exact ⟨_, hlength, fun k _ => jobByte_trailer h k, hfields⟩

end Sys2Proof.Machine
end

section
/-! PROOFS. What a placement makes of the state: the file placed in an OPEN frame, with the checks of R52 on it and, for a file of
length 0, its completion, as one record update; and the six steps of R48 as the statements write them. -/

namespace Sys2Proof.Machine

open Sys2Proof.Config

variable {s t u : State} {l : LaneNo} {f : FrameNo} {ln : Lane} {fr : Frame} {jobs : List Job} {p : Port}

/-! ## A state with one lane and one frame changed by a placement -/

/-- The class table with the entry of a frame's class emptied (R43, R54). -/
def emptied (table : Vector (Option FrameNo) 4) : Option ClassNo → Vector (Option FrameNo) 4
  | some c => table.set c.val none c.isLt
  | none => table

/-- The state once lane `l` is `ln`, frame `f` is `fr`, jobs stand at the tail of the queue, and `l` waits no longer; the class
table no longer names a frame that has been sealed. -/
def placed (s : State) (l : LaneNo) (f : FrameNo) (ln : Lane) (fr : Frame) (jobs : List Job) (p : Port) : State :=
  { s with
    lanes := s.lanes.set l.val ln l.isLt
    frames := s.frames.set f.val fr f.isLt
    classTable := if fr.state = .opened then s.classTable else emptied s.classTable fr.cls
    fill := { queue := s.fill.queue ++ jobs
              progress := if s.fill.queue = [] then jobs.head?.map Job.begin else s.fill.progress }
    waitList := s.waitList.filter (· != l)
    port := p }

@[simp] theorem placed_lane_same : (placed s l f ln fr jobs p).lane l = ln := Vector.getElem_set_self l.isLt

theorem placed_lane_other {k : LaneNo} (h : k ≠ l) : (placed s l f ln fr jobs p).lane k = s.lane k :=
  Vector.getElem_set_ne l.isLt k.isLt (Fin.val_ne_of_ne h.symm)

@[simp] theorem placed_frame_same : (placed s l f ln fr jobs p).frame f = fr := Vector.getElem_set_self f.isLt

theorem placed_frame_other {g : FrameNo} (h : g ≠ f) : (placed s l f ln fr jobs p).frame g = s.frame g :=
  Vector.getElem_set_ne f.isLt g.isLt (Fin.val_ne_of_ne h.symm)

theorem placed_jobsAdded : JobsAdded s (placed s l f ln fr jobs p) jobs := ⟨rfl, rfl⟩

theorem placed_classFrame (c : ClassNo) :
    (placed s l f ln fr jobs p).classFrame c =
      if fr.state ≠ .opened ∧ fr.cls = some c then none else s.classFrame c := by
  have hset : ∀ d : ClassNo, ({ s with classTable := s.classTable.set d.val none d.isLt } : State).classFrame c =
      if c = d then none else s.classFrame c := fun d => classFrame_setClassFrame s d c none
  simp only [placed, State.classFrame] at hset ⊢
  by_cases hopen : fr.state = .opened
  · simp [hopen]
  · cases hcls : fr.cls with
    | none => simp [hopen, emptied]
    | some d => simpa [hopen, emptied, eq_comm] using hset d

/-! ## How the operations of a placement act on it -/

theorem modLane_placed (g : Lane → Lane) : modLane l g (placed s l f ln fr jobs p) = placed s l f (g ln) fr jobs p := by
  have hlane : (placed s l f ln fr jobs p).lane l = ln := placed_lane_same
  rw [modLane, hlane]
  simp only [placed, Vector.set_set]

theorem modFrame_placed {g : Frame → Frame} (hstate : (g fr).state = fr.state) (hcls : (g fr).cls = fr.cls) :
    modFrame f g (placed s l f ln fr jobs p) = placed s l f ln (g fr) jobs p := by
  have hframe : (placed s l f ln fr jobs p).frame f = fr := placed_frame_same
  rw [modFrame, hframe]
  simp only [placed, Vector.set_set, hstate, hcls]

theorem enqueueJob_placed (hjobs : jobs ≠ []) (j : Job) :
    enqueueJob j (placed s l f ln fr jobs p) = placed s l f ln fr (jobs ++ [j]) p := by
  obtain ⟨j₀, rest, rfl⟩ := List.exists_cons_of_ne_nil hjobs
  simp [enqueueJob, placed]

/-- A frame with a job into it is not ready (R125). -/
theorem examine_placed (hjob : ∃ j ∈ jobs, j.frame = f) :
    examine f (placed s l f ln fr jobs p) = placed s l f ln fr jobs p := by
  obtain ⟨j, hj, hjf⟩ := hjob
  refine if_neg fun hready => ?_
  exact ((sealIsReady_iff _ f).1 hready).2.2 j (List.mem_append_right _ hj) hjf

/-- A frame sealed while a job into it is queued gathers (R54, R125). -/
theorem requestSeal_placed (hjob : ∃ j ∈ jobs, j.frame = f) (cause : SealCause) :
    requestSeal f cause (placed s l f ln fr jobs p) =
      placed s l f ln (if fr.state = .opened then fr.sealedBy cause s.tick else fr) jobs p := by
  have hframe : (placed s l f ln fr jobs p).frame f = fr := placed_frame_same
  by_cases hopen : fr.state = .opened
  · have hmark : markSealing f cause (placed s l f ln fr jobs p) =
        placed s l f ln (fr.sealedBy cause s.tick) jobs p := by
      cases hcls : fr.cls <;> simp only [markSealing, modFrame, setClassFrame, hframe, hcls] <;>
        simp [placed, hcls, hopen, emptied, Frame.sealedBy]
    rw [requestSeal, hframe, if_pos (by simp [hopen]), enterSealing, hmark, examine_placed hjob, if_pos hopen]
  · rw [requestSeal, hframe, if_neg (by simp [hopen]), if_neg hopen]

/-- The checks of R52 on the frame in which a file has just been placed. -/
theorem sealAfterPlacement_placed (hjob : ∃ j ∈ jobs, j.frame = f) (hopen : fr.state = .opened) :
    sealAfterPlacement f (placed s l f ln fr jobs p) = placed s l f ln (dueFrame s fr) jobs p := by
  have hframe : (placed s l f ln fr jobs p).frame f = fr := placed_frame_same
  have hdue : (decide ((placed s l f ln fr jobs p).items.sealThreshold.toNat < 256) &&
      decide (thresholdBytes (placed s l f ln fr jobs p) ≤ fr.cursor)) = true ↔
        s.items.sealThreshold.toNat < 256 ∧ frameSize s * s.items.sealThreshold.toNat / 256 ≤ fr.cursor := by
    rw [Bool.and_eq_true, decide_eq_true_eq, decide_eq_true_eq]
    exact Iff.rfl
  simp only [sealAfterPlacement, hframe, hdue, requestSeal_placed hjob, if_pos hopen, dueFrame, entryCapacity, beq_iff_eq]
  split
  · rfl
  · split <;> rfl

theorem sealAfterRequest_placed (hjob : ∃ j ∈ jobs, j.frame = f) (en : Entry) :
    sealAfterRequest f en (placed s l f ln fr jobs p) =
      placed s l f ln (if fr.state = .opened ∧ en.sealAfter = true then fr.sealedBy .sealAfter s.tick else fr) jobs p := by
  rw [sealAfterRequest, requestSeal_placed hjob]
  cases en.sealAfter <;> simp

/-- The port once the write in record `slot`, with fabric tag `tag`, has been answered OKAY (R29). -/
def okayAnswered (p : Port) (slot tag : Nat) : Port :=
  { p with writes := p.writes.filter (fun x => x.slot != slot)
           answers := p.answers ++ [{ stream := .write, tag := tag, code := .okay, data := [] }] }

/-- The port once the write in record `slot`, if there is one, has been answered OKAY. -/
def answeredPort (s : State) (slot : Nat) : Port := (answerRecord .write slot .okay [] s).port

theorem answeredPort_eq {slot : Nat} {r : OpenReq} (hfind : s.findRecord .write slot = some r) :
    answeredPort s slot = okayAnswered s.port slot r.tag := by
  rw [answeredPort, answerRecord_write hfind]
  rfl

/-- An answer looks at the port only. -/
theorem answeredPort_of_port {slot : Nat} (h : t.port = s.port) : answeredPort t slot = answeredPort s slot := by
  have hfind : t.findRecord .write slot = s.findRecord .write slot := by
    rw [State.findRecord, State.records, h]
    rfl
  rw [answeredPort, answeredPort, answerRecord, answerRecord, hfind]
  split
  · simp [dropRecord, setRecords, giveAnswer, modPort, State.records, h]
  · exact h

theorem answerRecord_placed (slot : Nat) :
    answerRecord .write slot .okay [] (placed s l f ln fr jobs s.port) =
      placed s l f ln fr jobs (answeredPort s slot) := by
  have hfind : (placed s l f ln fr jobs s.port).findRecord .write slot = s.findRecord .write slot := rfl
  rw [answeredPort, answerRecord, answerRecord, hfind]
  split <;> rfl

/-- The frame record with a file's entry and its record at the cursor, before the checks of R52 (R51). -/
def Frame.withFile (fr : Frame) (en : Entry) : Frame :=
  { fr with entries := fr.entries ++ [en], cursor := fr.cursor + recordSize en.len }

theorem addEntry_eq (hopen : (s.frame f).state = .opened) (a : Announce) :
    addEntry l a f s = placed s l f (s.lane l) ((s.frame f).withFile (a.entry l (s.frame f).cursor s.tick))
      [fileHeadJob l f (s.frame f).entries.length (s.frame f).cursor] s.port := by
  have hlane : s.lanes.set l.val (s.lane l) l.isLt = s.lanes := Vector.set_getElem_self l.isLt
  rw [placed, hlane, if_pos (show ((s.frame f).withFile _).state = .opened from hopen)]
  simp [addEntry, leaveWaitList, enqueueJob, modFrame, Frame.withFile, Announce.entry]

/-! ## A file placed in an OPEN frame -/

/-- The checks of R52 leave a frame or seal it. -/
theorem dueFrame_cases (s : State) (fr : Frame) : dueFrame s fr = fr ∨ ∃ cause, dueFrame s fr = fr.sealedBy cause s.tick := by
  rw [dueFrame]
  split
  · exact .inr ⟨_, rfl⟩
  · split
    · exact .inr ⟨_, rfl⟩
    · exact .inl rfl

theorem dueFrame_of_opened (h : (dueFrame s fr).state = .opened) : dueFrame s fr = fr := by
  rcases dueFrame_cases s fr with hsame | ⟨cause, hsealed⟩
  · exact hsame
  · rw [hsealed] at h
    cases h

/-- So do they with the check of SEAL_AFTER. -/
theorem emptyDueFrame_cases (s : State) (sealAfter : Bool) (fr : Frame) :
    emptyDueFrame s sealAfter fr = fr ∨ ∃ cause, emptyDueFrame s sealAfter fr = fr.sealedBy cause s.tick := by
  rw [emptyDueFrame]
  split
  · exact .inr ⟨_, rfl⟩
  · exact dueFrame_cases s fr

/-- What the checks leave of a frame. -/
theorem dueFrame_fixed (s : State) (fr : Frame) :
    (dueFrame s fr).entries = fr.entries ∧ (dueFrame s fr).cursor = fr.cursor ∧ (dueFrame s fr).cls = fr.cls ∧
      (dueFrame s fr).serial = fr.serial ∧ (dueFrame s fr).openTick = fr.openTick := by
  rcases dueFrame_cases s fr with h | ⟨cause, h⟩ <;> rw [h] <;> exact ⟨rfl, rfl, rfl, rfl, rfl⟩

theorem emptyDueFrame_fixed (s : State) (sealAfter : Bool) (fr : Frame) :
    (emptyDueFrame s sealAfter fr).entries = fr.entries ∧ (emptyDueFrame s sealAfter fr).cursor = fr.cursor ∧
      (emptyDueFrame s sealAfter fr).cls = fr.cls ∧ (emptyDueFrame s sealAfter fr).serial = fr.serial ∧
      (emptyDueFrame s sealAfter fr).openTick = fr.openTick := by
  rcases emptyDueFrame_cases s sealAfter fr with h | ⟨cause, h⟩ <;> rw [h] <;> exact ⟨rfl, rfl, rfl, rfl, rfl⟩

/-- The checks of R52 look at the cursor and at the number of entries only. -/
theorem dueFrame_entries (s : State) (fr : Frame) {es : List Entry} (h : es.length = fr.entries.length) :
    { dueFrame s fr with entries := es } = dueFrame s { fr with entries := es } := by
  simp only [dueFrame, Frame.sealedBy, h]
  split
  · rfl
  · split <;> rfl

/-- A file with bytes is placed: the lane is RECEIVING, and its write is answered (R27, R51, R52). -/
theorem placeFile_eq {a : Announce} {slot : Nat} (hopen : (s.frame f).state = .opened) (hlen : a.len ≠ 0) :
    placeFile l a slot f s =
      placed s l f (receivingLane f (s.frame f).entries.length s.tick (s.lane l))
        (dueFrame s ((s.frame f).withFile (a.entry l (s.frame f).cursor s.tick)))
        [fileHeadJob l f (s.frame f).entries.length (s.frame f).cursor] (answeredPort s slot) := by
  have hjob : ∃ j ∈ [fileHeadJob l f (s.frame f).entries.length (s.frame f).cursor], j.frame = f :=
    ⟨_, List.mem_singleton.2 rfl, rfl⟩
  rw [placeFile, addEntry_eq hopen, sealAfterPlacement_placed hjob (show ((s.frame f).withFile _).state = _ from hopen),
    acceptPlaced, if_neg (show ¬ (a.entry l (s.frame f).cursor s.tick).len = 0 from hlen), modLane_placed,
    answerRecord_placed]
  rfl

/-- The entry of a file of length 0 once it is COMPLETE (R28). -/
theorem completed_entry {a : Announce} (hlen : a.len = 0) (l : LaneNo) (off : Nat) (now : Tick) :
    (a.entry l off now).completed now = emptyEntry l a off now ∧
      (a.entry l off now).differs = (a.sumGiven && !(a.expA == 0 && a.expB == 0)) := by
  have hzero : ∀ x : Word, (0 == x.toNat) = (x == 0) := fun x => by
    rw [Bool.eq_iff_iff, beq_iff_eq, beq_iff_eq, ← BitVec.toNat_inj]
    exact eq_comm
  have hdiffers : (a.entry l off now).differs = (a.sumGiven && !(a.expA == 0 && a.expB == 0)) := by
    cases hsum : a.sumGiven <;> simp [Entry.differs, Announce.entry, hsum, TwoSum.matches, TwoSum.zero, hzero]
  refine ⟨?_, hdiffers⟩
  have hplaced : ((a.entry l off now).state == .placed) = true := rfl
  rw [Entry.completed, if_pos hplaced, hdiffers]
  simp [emptyEntry, Announce.entry, hlen]

/-- The frame record with entry `e` COMPLETE (R76). -/
def Frame.completes (e : Nat) (now : Tick) (fr : Frame) : Frame :=
  { fr with entries := fr.entries.modify e (Entry.completed now) }

/-- The lane with a file's result and counter, and IDLE (R76). -/
def Lane.completes (r : Result) (ln : Lane) : Lane := { (ln.pushResult r).finished with completed := ln.completed + 1 }

/-- What a file of length 0 makes of its lane (R28). -/
theorem completes_afterEmpty {a : Announce} (hlen : a.len = 0) (ln : Lane) (e off : Nat) (now : Tick) (fr : Frame) :
    ln.completes (completionResult e (a.entry l off now) fr) = afterEmpty a e off fr.serial ln := by
  rw [Lane.completes, completionResult, (completed_entry hlen l off now).2, fileResult]
  simp only [Announce.entry, hlen, TwoSum.zero]
  rfl

/-- The completion of a file with a pad, while a job into its frame is queued (R76). -/
theorem finishFile_placed (hjob : ∃ j ∈ jobs, j.frame = f) {e slot : Nat} {en : Entry}
    (hpad : padEmpty en.len = false) :
    finishFile l f e en slot (placed s l f ln fr jobs s.port) =
      placed s l f (ln.completes (completionResult e en fr))
        (if fr.state = .opened ∧ en.sealAfter = true then (fr.completes e s.tick).sealedBy .sealAfter s.tick
          else fr.completes e s.tick)
        (jobs ++ [padJob l f en]) (answeredPort s slot) := by
  have hjobs : ∃ j ∈ jobs ++ [padJob l f en], j.frame = f := hjob.imp fun j hj => ⟨List.mem_append_left _ hj.1, hj.2⟩
  have hne : jobs ≠ [] := by
    rintro rfl
    obtain ⟨j, hj, -⟩ := hjob
    cases hj
  rw [finishFile, modEntry, modFrame_placed rfl rfl, enqueuePad, if_neg (by simp [hpad]), enqueueJob_placed hne,
    laneCompletes, modLane_placed, answerRecord_placed, sealAfterRequest_placed hjobs, examine_placed hjobs,
    placed_frame_same]
  rfl

/-- The checks of R52 do not look at the entry's fields: it may complete before them. -/
theorem completes_dueFrame (en : Entry) (now : Tick) (hlen : (en.completed now).len = en.len) :
    (dueFrame s (fr.withFile en)).completes fr.entries.length now = dueFrame s (fr.withFile (en.completed now)) := by
  have hmodify : (fr.entries ++ [en]).modify fr.entries.length (Entry.completed now) = fr.entries ++ [en.completed now] := by
    induction fr.entries with
    | nil => rfl
    | cons x xs ih => simpa using ih
  have hentries : (dueFrame s (fr.withFile en)).entries = fr.entries ++ [en] := (dueFrame_fixed s _).1
  rw [Frame.completes, hentries, hmodify, dueFrame_entries s _ (by simp [Frame.withFile])]
  simp only [Frame.withFile, hlen]

/-- A file of length 0 is placed and completes: the lane is IDLE, and its write is answered (R28, R51, R52). -/
theorem placeFile_empty_eq {a : Announce} {slot : Nat} (hopen : (s.frame f).state = .opened) (hlen : a.len = 0) :
    placeFile l a slot f s =
      placed s l f (afterEmpty a (s.frame f).entries.length (s.frame f).cursor (s.frame f).serial (s.lane l))
        (emptyDueFrame s a.sealAfter ((s.frame f).withFile (emptyEntry l a (s.frame f).cursor s.tick)))
        [fileHeadJob l f (s.frame f).entries.length (s.frame f).cursor, emptyPad l f (s.frame f).cursor]
        (answeredPort s slot) := by
  have hjob : ∃ j ∈ [fileHeadJob l f (s.frame f).entries.length (s.frame f).cursor], j.frame = f :=
    ⟨_, List.mem_singleton.2 rfl, rfl⟩
  obtain ⟨hcompleted, -⟩ := completed_entry hlen l (s.frame f).cursor s.tick
  have hdue := completes_dueFrame (s := s) (fr := s.frame f) (a.entry l (s.frame f).cursor s.tick) s.tick
    (by rw [hcompleted]; rfl)
  rw [hcompleted] at hdue
  have hserial : (dueFrame s ((s.frame f).withFile (a.entry l (s.frame f).cursor s.tick))).serial = (s.frame f).serial :=
    (dueFrame_fixed s _).2.2.2.1
  have hstate : (dueFrame s ((s.frame f).withFile (emptyEntry l a (s.frame f).cursor s.tick))).state =
      (dueFrame s ((s.frame f).withFile (a.entry l (s.frame f).cursor s.tick))).state := by
    rw [← hdue]
    rfl
  have hframe : emptyDueFrame s a.sealAfter ((s.frame f).withFile (emptyEntry l a (s.frame f).cursor s.tick)) =
      if (dueFrame s ((s.frame f).withFile (a.entry l (s.frame f).cursor s.tick))).state = .opened ∧ a.sealAfter = true then
        (dueFrame s ((s.frame f).withFile (emptyEntry l a (s.frame f).cursor s.tick))).sealedBy .sealAfter s.tick
      else dueFrame s ((s.frame f).withFile (emptyEntry l a (s.frame f).cursor s.tick)) := by
    rw [emptyDueFrame, hstate]
    split
    case isTrue h => rw [dueFrame_of_opened (hstate.trans h.1)]
    case isFalse => rfl
  have hpad : padJob l f (a.entry l (s.frame f).cursor s.tick) = emptyPad l f (s.frame f).cursor := by
    simp only [padJob, emptyPad, Announce.entry, hlen]
    rfl
  rw [placeFile, addEntry_eq hopen, sealAfterPlacement_placed hjob (show ((s.frame f).withFile _).state = _ from hopen),
    acceptPlaced, if_pos (show (a.entry l (s.frame f).cursor s.tick).len = 0 from hlen),
    finishFile_placed hjob (show padEmpty a.len = false by rw [hlen]; rfl), hdue,
    completes_afterEmpty hlen, hserial, hframe, hpad]
  rfl

/-! ## The statements' words for a placement -/

/-- The seal state and cause of the frame follow from the checks of R52. -/
theorem sealedAsDue_of_dueFrame (hframe : t.frame f = dueFrame s fr) (hopen : fr.state = .opened) :
    SealedAsDue s t f fr.cursor fr.entries.length := by
  rw [SealedAsDue, hframe, dueFrame]
  by_cases hthreshold : s.items.sealThreshold.toNat < 256 ∧ frameSize s * s.items.sealThreshold.toNat / 256 ≤ fr.cursor
  · simp only [if_pos hthreshold]
    exact ⟨rfl, rfl, rfl⟩
  · simp only [if_neg hthreshold, entryCapacity]
    by_cases hfull : fr.entries.length = 2048
    · simp only [if_pos hfull]
      exact ⟨rfl, rfl, rfl⟩
    · simp only [if_neg hfull]
      exact hopen

theorem emptySealedAsDue_of_dueFrame {sealAfter : Bool} (hframe : t.frame f = emptyDueFrame s sealAfter fr)
    (hopen : fr.state = .opened) : EmptySealedAsDue s t f fr.cursor fr.entries.length sealAfter := by
  rw [EmptySealedAsDue, hframe, emptyDueFrame]
  by_cases hthreshold : s.items.sealThreshold.toNat < 256 ∧ frameSize s * s.items.sealThreshold.toNat / 256 ≤ fr.cursor
  · rw [if_pos hthreshold, dueFrame, if_pos hthreshold, if_neg (fun h => nomatch h.1)]
    exact ⟨rfl, rfl, rfl⟩
  · rw [if_neg hthreshold, dueFrame, if_neg hthreshold]
    by_cases hmany : fr.entries.length = entryCapacity
    · have hmany' : fr.entries.length = 2048 := hmany
      rw [if_pos hmany', if_pos hmany, if_neg (fun h => nomatch h.1)]
      exact ⟨rfl, rfl, rfl⟩
    · have hmany' : ¬ fr.entries.length = 2048 := hmany
      rw [if_neg hmany', if_neg hmany]
      cases sealAfter with
      | true =>
        simp only [hopen, and_self, if_true]
        exact ⟨rfl, rfl, rfl⟩
      | false =>
        simp only [Bool.false_eq_true, and_false, if_false]
        exact hopen

/-- A file with bytes placed in an OPEN frame (R27, R51, R52). -/
theorem placeFile_placedIn {a : Announce} {slot : Nat} (hopen : (s.frame f).state = .opened) (hlen : a.len ≠ 0) :
    PlacedIn s (placeFile l a slot f s) l a f := by
  rw [placeFile_eq hopen hlen]
  obtain ⟨hentries, hcursor, hcls, -⟩ := dueFrame_fixed s ((s.frame f).withFile (a.entry l (s.frame f).cursor s.tick))
  refine ⟨?_, ?_, rfl, rfl, ?_⟩
  · rw [placed_frame_same, hentries]
    rfl
  · rw [placed_frame_same, hcursor]
    rfl
  · rw [placed_lane_same, placed_frame_same]
    refine ⟨rfl, rfl, rfl, rfl, rfl, rfl, rfl, rfl, rfl, fun c => ?_, placed_jobsAdded, fun k => placed_lane_other,
      fun g => placed_frame_other⟩
    rw [placed_classFrame, placed_frame_same, hcls]
    rfl

/-- A file of length 0 placed in an OPEN frame (R28, R51, R52). -/
theorem placeFile_emptyPlacedIn {a : Announce} {slot : Nat} (hopen : (s.frame f).state = .opened) (hlen : a.len = 0) :
    EmptyPlacedIn s (placeFile l a slot f s) l a f := by
  rw [placeFile_empty_eq hopen hlen]
  have hrecord : recordSize (emptyEntry l a (s.frame f).cursor s.tick).len = 512 := by
    rw [show (emptyEntry l a (s.frame f).cursor s.tick).len = 0 from hlen]
    rfl
  have hfile : (s.frame f).withFile (emptyEntry l a (s.frame f).cursor s.tick) = { s.frame f with
      entries := (s.frame f).entries ++ [emptyEntry l a (s.frame f).cursor s.tick]
      cursor := (s.frame f).cursor + 512 } := by
    rw [Frame.withFile, hrecord]
  rw [hfile]
  obtain ⟨hentries, hcursor, hcls, -⟩ := emptyDueFrame_fixed s a.sealAfter { s.frame f with
      entries := (s.frame f).entries ++ [emptyEntry l a (s.frame f).cursor s.tick]
      cursor := (s.frame f).cursor + 512 }
  refine ⟨?_, ?_, rfl, rfl, placed_lane_same, placed_frame_same, fun c => ?_, placed_jobsAdded, fun k => placed_lane_other,
    fun g => placed_frame_other⟩
  · rw [placed_frame_same, hentries]
  · rw [placed_frame_same, hcursor]
  · rw [placed_classFrame, placed_frame_same, hcls]

/-- The rest of the state stays in a placement in an OPEN frame. -/
theorem placeFile_others {a : Announce} {slot : Nat} (hopen : (s.frame f).state = .opened) :
    (placeFile l a slot f s).port = answeredPort s slot ∧
      { placeFile l a slot f s with port := s.port, lanes := s.lanes, frames := s.frames, classTable := s.classTable
                                    fill := s.fill, waitList := s.waitList } = s := by
  by_cases hlen : a.len = 0
  · rw [placeFile_empty_eq hopen hlen]
    exact ⟨rfl, rfl⟩
  · rw [placeFile_eq hopen hlen]
    exact ⟨rfl, rfl⟩

theorem placeFile_answered {a : Announce} {slot : Nat} {r : OpenReq} (hopen : (s.frame f).state = .opened)
    (hfind : s.findRecord .write slot = some r) : AnnounceAnswered s (placeFile l a slot f s) slot r.tag :=
  (placeFile_others hopen).1.trans (answeredPort_eq hfind)

/-! ## A new frame -/

theorem openFrame_frame_same (s : State) (g : FrameNo) (c : ClassNo) :
    (openFrame g c s).frame g = Frame.opening c s.nextSerial s.tick :=
  frame_modFrame_same s g fun _ => Frame.opening c s.nextSerial s.tick

theorem openFrame_frame_other (s : State) {g k : FrameNo} (h : k ≠ g) (c : ClassNo) :
    (openFrame g c s).frame k = s.frame k := frame_modFrame_other s h fun _ => Frame.opening c s.nextSerial s.tick

theorem openFrame_classFrame (s : State) (g : FrameNo) (c d : ClassNo) :
    (openFrame g c s).classFrame d = if d = c then some g else s.classFrame d :=
  classFrame_setClassFrame { modFrame g (fun _ => Frame.opening c s.nextSerial s.tick) s with
    nextSerial := s.nextSerial + 1 } c d (some g)

/-- The PACK_HEAD job stands before the jobs of the placement (R51). -/
theorem openFrame_jobsAdded (s : State) (g : FrameNo) (c : ClassNo) (h : JobsAdded (openFrame g c s) t jobs) :
    JobsAdded s t (packHeadJob g s.nextSerial c s.items.frameSizeCode s.tick :: jobs) := by
  obtain ⟨hqueue, hprogress⟩ := h
  refine ⟨hqueue.trans (by simp [openFrame, enqueueJob]), hprogress.trans ?_⟩
  have hne : (openFrame g c s).fill.queue ≠ [] := by simp [openFrame, enqueueJob]
  rw [if_neg hne]
  simp [openFrame, enqueueJob, Job.begin]

/-- A FREE frame opened for an announce, and the file placed in it as entry 0 (R50, R51). -/
theorem placeFile_openFrame {a : Announce} {slot : Nat} (g : FrameNo) :
    OpenedIn s (placeFile l a slot g (openFrame g a.cls s)) l a g ∧
      (placeFile l a slot g (openFrame g a.cls s)).port = answeredPort s slot := by
  have hframe := openFrame_frame_same s g a.cls
  have hopen : ((openFrame g a.cls s).frame g).state = .opened := by rw [hframe]; rfl
  have hport : answeredPort (openFrame g a.cls s) slot = answeredPort s slot := answeredPort_of_port rfl
  have hotherframes : ∀ {ln fr jobs p}, ∀ k, k ≠ g →
      (placed (openFrame g a.cls s) l g ln fr jobs p).frame k = s.frame k := fun k hk =>
    (placed_frame_other hk).trans (openFrame_frame_other s hk a.cls)
  have hotherlanes : ∀ {ln fr jobs p}, ∀ k, k ≠ l → (placed (openFrame g a.cls s) l g ln fr jobs p).lane k = s.lane k :=
    fun k hk => placed_lane_other hk
  have htable : ∀ {ln fr jobs p}, fr.cls = some a.cls → ∀ c, (placed (openFrame g a.cls s) l g ln fr jobs p).classFrame c =
      if c = a.cls then
        (if ((placed (openFrame g a.cls s) l g ln fr jobs p).frame g).state = .opened then some g else none)
      else s.classFrame c := fun {ln fr jobs p} hcls c => by
    rw [placed_classFrame, openFrame_classFrame, placed_frame_same, hcls]
    by_cases hc : c = a.cls
    · subst hc
      by_cases hstate : fr.state = .opened <;> simp [hstate]
    · simp [hc, Ne.symm hc]
  by_cases hlen : a.len = 0
  · rw [placeFile_empty_eq hopen hlen, hframe, hport]
    have hcls := (emptyDueFrame_fixed (openFrame g a.cls s) a.sealAfter
      ((Frame.opening a.cls s.nextSerial s.tick).withFile (emptyEntry l a packHeadBytes s.tick))).2.2.1
    exact ⟨⟨fun h => absurd hlen h, fun _ => ⟨placed_frame_same, placed_lane_same, openFrame_jobsAdded s g a.cls placed_jobsAdded⟩,
      rfl, rfl, htable hcls, rfl, hotherlanes, hotherframes, rfl⟩, rfl⟩
  · rw [placeFile_eq hopen hlen, hframe, hport]
    have hcls := (dueFrame_fixed (openFrame g a.cls s)
      ((Frame.opening a.cls s.nextSerial s.tick).withFile (a.entry l packHeadBytes s.tick))).2.2.1
    exact ⟨⟨fun _ => ⟨placed_frame_same, placed_lane_same, openFrame_jobsAdded s g a.cls placed_jobsAdded⟩,
      fun h => absurd h hlen, rfl, rfl, htable hcls, rfl, hotherlanes, hotherframes, rfl⟩, rfl⟩

/-! ## The six steps of R48 -/

theorem frameNos_getElem (i : Nat) (h : i < frameNos.length) : frameNos[i] = ⟨i, h⟩ := by
  have hall : ∀ k : FrameNo, frameNos[k.val]'k.isLt = k := by decide
  exact hall ⟨i, h⟩

theorem lowestFree_eq_some_iff {g : FrameNo} : lowestFree s = some g ↔ LowestFree s g := by
  simp only [lowestFree, List.find?_eq_some_iff_getElem, frameNos_getElem, Bool.and_eq_true, decide_eq_true_eq, beq_iff_eq,
    Bool.not_eq_true', LowestFree]
  constructor
  · rintro ⟨⟨hcount, hfree⟩, i, hi, rfl, hlow⟩
    refine ⟨hcount, hfree, fun k hk hkfree => ?_⟩
    have hkcount : k.val < frameCount s := Nat.lt_trans hk hcount
    exact absurd (hlow k.val hk) (by simp [hkcount, hkfree])
  · rintro ⟨hcount, hfree, hlow⟩
    refine ⟨⟨hcount, hfree⟩, g.val, g.isLt, rfl, fun j hj => ?_⟩
    simpa using fun _ => hlow ⟨j, Nat.lt_trans hj g.isLt⟩ hj

theorem lowestFree_eq_none_iff : lowestFree s = none ↔ NoneFree s := by
  simp only [lowestFree, List.find?_eq_none, frameNos_complete, forall_true_left, Bool.and_eq_true, decide_eq_true_eq, beq_iff_eq,
    not_and, NoneFree, ne_eq]

theorem fits_iff {len : Nat} : fits s f len = true ↔ Fits s f len := by
  rw [fits, Bool.and_eq_true, decide_eq_true_eq, decide_eq_true_eq]
  exact Iff.rfl

theorem jobTest_iff {len : Nat} : jobTest s l len = true ↔ s.laneJobs l + (if len = 0 then 2 else 1) ≤ 2 :=
  decide_eq_true_iff

theorem openFrameOf_of_opened {c : ClassNo} (htable : s.classFrame c = some f) (hopen : (s.frame f).state = .opened) :
    openFrameOf s c = some f := by
  simp [openFrameOf, htable, hopen]

theorem openFrameOf_of_none {c : ClassNo} (htable : s.classFrame c = none) : openFrameOf s c = none := by
  simp [openFrameOf, htable]

/-- A lane put on hold, in the words of R29 and R57. -/
theorem holdPlaced_eq (s : State) (l : LaneNo) (a : Announce) (reason : WaitReason) (slot : Nat) :
    holdPlaced l a reason slot s = heldOn l a reason slot s := by
  cases reason <;> rfl

/-- Step 6 of R48: the lane waits for a frame. -/
theorem placeInNew_noneFree {a : Announce} {slot : Nat} (h : NoneFree s) :
    placeInNew l a slot s = heldOn l a .noFrame slot s := by
  simp only [placeInNew, lowestFree_eq_none_iff.2 h, holdPlaced_eq]

/-- Steps 5 and 6 of R48, in a state whose FREE frames are those of `s`. -/
theorem placeInNew_opens {a : Announce} {slot : Nat} {r : OpenReq}
    (hfree : ∀ g, (u.frame g).state = .free ↔ (s.frame g).state = .free) (hitems : u.items = s.items) (hport : u.port = s.port)
    (hfind : s.findRecord .write slot = some r) :
    (∀ g, LowestFree s g → OpenedIn u (placeInNew l a slot u) l a g ∧ AnnounceAnswered s (placeInNew l a slot u) slot r.tag) ∧
      (NoneFree s → placeInNew l a slot u = heldOn l a .noFrame slot u) := by
  have hcount : frameCount u = frameCount s := by rw [frameCount, hitems]; rfl
  refine ⟨fun g hg => ?_, fun hnone => placeInNew_noneFree (by simpa only [NoneFree, hfree, hcount, ne_eq] using hnone)⟩
  · have hg' : lowestFree u = some g := lowestFree_eq_some_iff.2 (by simpa only [LowestFree, hfree, hcount, ne_eq] using hg)
    obtain ⟨hopened, hanswered⟩ := placeFile_openFrame (s := u) (l := l) (a := a) (slot := slot) g
    simp only [placeInNew, hg']
    exact ⟨hopened, hanswered.trans ((answeredPort_of_port hport).trans (answeredPort_eq hfind))⟩

/-- A seal leaves everything but its frame, the class table and the job queue. -/
theorem enterSealing_fixed (s : State) (f : FrameNo) (cause : SealCause) :
    ∃ frames classTable fill,
      enterSealing f cause s = { s with frames := frames, classTable := classTable, fill := fill } := by
  unfold enterSealing examine markSealing
  split <;> split <;> exact ⟨_, _, _, rfl⟩

theorem enterSealing_items (s : State) (f : FrameNo) (cause : SealCause) : (enterSealing f cause s).items = s.items := by
  obtain ⟨frames, classTable, fill, h⟩ := enterSealing_fixed s f cause
  rw [h]

/-- The seal of an OPEN frame makes no frame FREE, and leaves none. -/
theorem enterSealing_free (hopen : (s.frame f).state = .opened) (cause : SealCause) (g : FrameNo) :
    ((enterSealing f cause s).frame g).state = .free ↔ (s.frame g).state = .free := by
  have hmark : ((markSealing f cause s).frame g).state = if g = f then .sealing else (s.frame g).state := by
    unfold markSealing
    split <;> simp only [frame_setClassFrame, frame_modFrame] <;> split <;> rfl
  rw [enterSealing, examine_state, hmark]
  split
  · next h =>
    subst h
    simp [hopen]
  · rfl

section steps
variable {a : Announce} {slot : Nat}

theorem requestPlacement_jobLimit (hjobs : 2 < s.laneJobs l + (if a.len = 0 then 2 else 1)) :
    requestPlacement l a slot s = heldOn l a .jobLimit slot s := by
  have htest : jobTest s l a.len = false := by
    rw [Bool.eq_false_iff, Ne, jobTest_iff]
    exact Nat.not_le.2 hjobs
  simp only [requestPlacement, htest, holdPlaced_eq]
  rfl

theorem requestPlacement_noTable (hjobs : s.laneJobs l + (if a.len = 0 then 2 else 1) ≤ 2) (htable : s.classFrame a.cls = none) :
    requestPlacement l a slot s = placeInNew l a slot s := by
  simp only [requestPlacement, jobTest_iff.2 hjobs, openFrameOf_of_none htable]
  rfl

theorem requestPlacement_fits (hjobs : s.laneJobs l + (if a.len = 0 then 2 else 1) ≤ 2)
    (htable : s.classFrame a.cls = some f) (hopen : (s.frame f).state = .opened) (hfits : Fits s f a.len) :
    requestPlacement l a slot s = placeFile l a slot f s := by
  simp only [requestPlacement, jobTest_iff.2 hjobs, openFrameOf_of_opened htable hopen, fits_iff.2 hfits]
  rfl

theorem requestPlacement_misfit (hjobs : s.laneJobs l + (if a.len = 0 then 2 else 1) ≤ 2)
    (htable : s.classFrame a.cls = some f) (hopen : (s.frame f).state = .opened) (hmisfit : ¬ Fits s f a.len) :
    requestPlacement l a slot s = placeInNew l a slot (enterSealing f .misfit s) := by
  have hfits : fits s f a.len = false := by
    rw [Bool.eq_false_iff, Ne, fits_iff]
    exact hmisfit
  simp only [requestPlacement, jobTest_iff.2 hjobs, openFrameOf_of_opened htable hopen, hfits]
  rfl

/-- Placement decides on an announce (R48). -/
theorem requestPlacement_decided {r : OpenReq} (hlive : s.resetLow = false) (hfind : s.findRecord .write slot = some r) :
    Decided s (requestPlacement l a slot s) l a slot r.tag := by
  refine ⟨requestPlacement_jobLimit, fun hjobs => ⟨fun htable => ?noTable, fun f htable hopen hcls => ⟨fun hfits => ?placed,
    fun hmisfit => ⟨enterSealing f .misfit s, ?seals, ?opens⟩⟩⟩⟩
  case noTable =>
    rw [requestPlacement_noTable hjobs htable]
    exact placeInNew_opens (fun _ => Iff.rfl) rfl rfl hfind
  case placed =>
    rw [requestPlacement_fits hjobs htable hopen hfits]
    exact ⟨placeFile_answered hopen hfind, placeFile_placedIn hopen, placeFile_emptyPlacedIn hopen,
      (placeFile_others hopen).2⟩
  case seals =>
    rw [SealsWith, exec_sealReady_live (by simpa using hlive), enterSealing, markSealing_of_bound .misfit hcls]
    rfl
  case opens =>
    rw [requestPlacement_misfit hjobs htable hopen hmisfit]
    obtain ⟨frames, classTable, fill, heq⟩ := enterSealing_fixed s f .misfit
    exact placeInNew_opens (enterSealing_free hopen .misfit) (enterSealing_items ..) (by rw [heq]) hfind

end steps

end Sys2Proof.Machine
end

section
/-! PROOFS. Announces that go to placement: the settled statements AnnouncePlaced, AnnounceOpensFrame, AnnounceHeld,
HeldAnnounceRetried and MisfitSealsTheFrame (R26 to R30, R48 to R57). -/

namespace Sys2Proof.Machine

open Sys2Proof.Config

variable {s t u : State} {l : LaneNo} {f : FrameNo} {a : Announce}

/-! ## What a placement says does not look at the ports -/

theorem PlacedIn.of_port {p : Port} (h : PlacedIn { s with port := p } t l a f) : PlacedIn s t l a f := h

theorem EmptyPlacedIn.of_port {p : Port} (h : EmptyPlacedIn { s with port := p } t l a f) : EmptyPlacedIn s t l a f := h

theorem OpenedIn.of_port {p : Port} (h : OpenedIn { s with port := p } t l a f) : OpenedIn s t l a f := by
  obtain ⟨hfile, hempty, hserial, hrun, htable, hwait, hlanes, hframes, hrest⟩ := h
  exact ⟨hfile, hempty, hserial, hrun, htable, hwait, hlanes, hframes,
    congrArg (fun v : State => { v with port := s.port }) hrest⟩

theorem PlacedIn.sealedAsDue (h : PlacedIn s t l a f) (hopen : (s.frame f).state = .opened) :
    SealedAsDue s t f ((s.frame f).cursor + recordSize a.len) ((s.frame f).entries.length + 1) := by
  obtain ⟨-, -, -, -, -, -, -, -, -, -, -, hframe, -⟩ := h
  have hdue := sealedAsDue_of_dueFrame hframe hopen
  rwa [List.length_append] at hdue

theorem EmptyPlacedIn.sealedAsDue (h : EmptyPlacedIn s t l a f) (hopen : (s.frame f).state = .opened) :
    EmptySealedAsDue s t f ((s.frame f).cursor + 512) ((s.frame f).entries.length + 1) a.sealAfter := by
  obtain ⟨-, -, -, -, -, hframe, -⟩ := h
  have hdue := emptySealedAsDue_of_dueFrame hframe hopen
  rwa [List.length_append] at hdue

/-! ## An announce taken by an IDLE or MUTED lane -/

/-- The port once lane `l` has taken an announce, its write unanswered at stage held (R29). -/
def announcePort (s : State) (src : WriteSource) (l : LaneNo) (tag : Nat) : Port :=
  (addRecord .write
    { slot := (afterLeaving src s).freshSlot .write, tag := tag, cls := .aperture l, origin := .heldAnnounce l
      stage := .held, beats := 8, preReset := false } (afterLeaving src s)).port

/-- The state in which placement decides on the announce. -/
def announceTaken (s : State) (src : WriteSource) (l : LaneNo) (tag : Nat) : State :=
  { s with port := announcePort s src l tag }

/-- A valid announce goes to placement (R26). -/
theorem exec_announce_placing {src : WriteSource} {w : WriteReq} (htakes : LaneTakesWrite s src l 0 w)
    (hkind : laneWriteKind 0 w.bytes = .announce) (hvalid : validateAnnounce s (parseAnnounce (w.bytes.filterMap id)) = none)
    (ha : a = (parseAnnounce (w.bytes.filterMap id)).valid) (hstate : (s.lane l).state = .idle ∨ (s.lane l).state = .muted) :
    exec (.announce src) s = .next (requestPlacement l a ((afterLeaving src s).freshSlot .write)
      (announceTaken s src l w.tag)) := by
  have htaken : addRecord .write (announceRecord l ((afterLeaving src s).freshSlot .write) w.tag) (afterLeaving src s) =
      announceTaken s src l w.tag := by
    cases src <;> rfl
  rw [exec_announce_taken htakes hkind, takeAnnounce, afterLeaving_validate, hvalid, ha]
  simp only [htaken]
  rcases hstate with hidle | hmuted
  · have hlane : ((announceTaken s src l w.tag).lane l).state = .idle := hidle
    simp only [acceptAnnounce, hlane]
  · have hlane : ((announceTaken s src l w.tag).lane l).state = .muted := hmuted
    simp only [acceptAnnounce, hlane]

/-- No open write carries the number that a new record takes (log 6). -/
theorem freshSlot_ne (r : OpenReq) (hr : r ∈ s.port.writes) : r.slot ≠ s.freshSlot .write := fun h =>
  freshNat_not_mem (s.port.writes.map (·.slot)) (List.mem_map.2 ⟨r, hr, h⟩)

/-- The record of the announce is found under its number. -/
theorem findRecord_announcePort (src : WriteSource) (tag : Nat) :
    ∃ r, (announceTaken s src l tag).findRecord .write ((afterLeaving src s).freshSlot .write) =
      some r ∧ r.tag = tag := by
  have hnone : (afterLeaving src s).port.writes.find? (fun r => r.slot == (afterLeaving src s).freshSlot .write) = none :=
    List.find?_eq_none.2 fun r hr => by simpa using freshSlot_ne r hr
  refine ⟨{ slot := (afterLeaving src s).freshSlot .write, tag := tag, cls := .aperture l, origin := .heldAnnounce l
            stage := .held, beats := 8, preReset := false }, ?_, rfl⟩
  have hwrites : (announcePort s src l tag).writes = (afterLeaving src s).port.writes ++ [_] := rfl
  simp only [announceTaken, State.findRecord, State.records, hwrites, List.find?_append, hnone]
  simp

/-- Once it is answered the ports are as if the announce had been answered at once (R29). -/
theorem okayAnswered_announcePort (src : WriteSource) (tag : Nat) :
    okayAnswered (announcePort s src l tag) ((afterLeaving src s).freshSlot .write) tag =
      (answering .write tag .okay [] (afterLeaving src s)).port := by
  have hkept : (afterLeaving src s).port.writes.filter (fun r => r.slot != (afterLeaving src s).freshSlot .write) =
      (afterLeaving src s).port.writes := List.filter_eq_self.2 fun r hr => by simpa using freshSlot_ne r hr
  have hwrites : (announcePort s src l tag).writes = (afterLeaving src s).port.writes ++ [_] := rfl
  rw [okayAnswered, hwrites, List.filter_append, hkept]
  simp [announcePort, addRecord, setRecords, modPort, answering]

/-- Settles O13: the placement in the OPEN frame, with the ports as if the announce had been answered at once. -/
theorem announcePlaced : Obligations.AnnouncePlaced := by
  intro s src l w a f htakes hkind hvalid ha hstate hjobs htable hopen hroom hsize
  obtain ⟨r, hfind, htag⟩ := findRecord_announcePort (s := s) (l := l) src w.tag
  have hanswered := placeFile_answered (l := l) (a := a) (s := announceTaken s src l w.tag) hopen hfind
  have hothers := (placeFile_others (l := l) (a := a) (s := announceTaken s src l w.tag)
    (slot := (afterLeaving src s).freshSlot .write) hopen).2
  refine ⟨_, (exec_announce_placing htakes hkind hvalid ha hstate).trans
    (congrArg _ (requestPlacement_fits (s := announceTaken s src l w.tag) hjobs htable hopen ⟨hroom, hsize⟩)), fun hlen => ?_, fun hlen => ?_, ?_, ?_⟩
  · have hplaced := (placeFile_placedIn (l := l) (s := announceTaken s src l w.tag)
      (slot := (afterLeaving src s).freshSlot .write) hopen hlen).of_port
    exact ⟨hplaced, hplaced.sealedAsDue hopen⟩
  · have hplaced := (placeFile_emptyPlacedIn (l := l) (s := announceTaken s src l w.tag)
      (slot := (afterLeaving src s).freshSlot .write) hopen hlen).of_port
    exact ⟨hplaced, hplaced.sealedAsDue hopen⟩
  · rw [htag] at hanswered
    exact hanswered.trans (okayAnswered_announcePort src w.tag)
  · exact congrArg (fun v : State => { v with port := s.port }) hothers

/-- Settles O14: the placement in the frame that step 5 opens. -/
theorem announceOpensFrame : Obligations.AnnounceOpensFrame := by
  intro s src l w a f htakes hkind hvalid ha hstate hjobs htable hcount hfree hlow
  obtain ⟨r, hfind, htag⟩ := findRecord_announcePort (s := s) (l := l) src w.tag
  obtain ⟨hopens, -⟩ := placeInNew_opens (l := l) (a := a) (fun _ => Iff.rfl) rfl rfl hfind
  obtain ⟨hopened, hanswered⟩ := hopens f ⟨hcount, hfree, hlow⟩
  refine ⟨_, (exec_announce_placing htakes hkind hvalid ha hstate).trans
    (congrArg _ (requestPlacement_noTable (s := announceTaken s src l w.tag) hjobs htable)), hopened.of_port, ?_⟩
  rw [htag] at hanswered
  exact hanswered.trans (okayAnswered_announcePort src w.tag)

/-! ## An announce held -/

theorem heldOn_lane_same (a : Announce) (reason : WaitReason) (slot : Nat) (s : State) :
    ((heldOn l a reason slot s).lane l).state = .waiting ∧
      ((heldOn l a reason slot s).lane l).held =
        some { ann := a, reason := reason, timer := { start := s.tick, reported := false }, slot := slot } := by
  have hlane : (heldOn l a reason slot s).lane l =
      Lane.wait a reason { start := s.tick, reported := false } slot (s.lane l) := by
    cases reason <;> exact lane_modLane_same s l (Lane.wait a _ { start := s.tick, reported := false } slot)
  rw [hlane]
  exact ⟨rfl, rfl⟩

theorem heldOn_lane_other {k : LaneNo} (h : k ≠ l) (a : Announce) (reason : WaitReason) (slot : Nat) (s : State) :
    (heldOn l a reason slot s).lane k = s.lane k := by
  cases reason <;>
    exact lane_modLane_other s h (Lane.wait a _ { start := s.tick, reported := false } slot)

/-- Settles O15: steps 1 and 6 of R48 put the lane on hold. -/
theorem announceHeld : Obligations.AnnounceHeld := by
  intro s src l w a htakes hkind hvalid ha hstate reason hreason
  have hheld : exec (.announce src) s = .next (heldOn l a reason ((afterLeaving src s).freshSlot .write)
      (announceTaken s src l w.tag)) := by
    refine (exec_announce_placing htakes hkind hvalid ha hstate).trans (congrArg _ ?_)
    rcases hreason with ⟨hjobs, rfl⟩ | ⟨hjobs, htable, hnone, rfl⟩
    · exact requestPlacement_jobLimit (s := announceTaken s src l w.tag) hjobs
    · exact (requestPlacement_noTable (s := announceTaken s src l w.tag) hjobs htable).trans (placeInNew_noneFree hnone)
  obtain ⟨hwaiting, hhold⟩ := heldOn_lane_same (l := l) a reason ((afterLeaving src s).freshSlot .write)
    (announceTaken s src l w.tag)
  refine ⟨_, hheld, ?_, hwaiting, hhold, fun k hk => heldOn_lane_other hk a reason _ _, ?_, ?_, ?_⟩
  · cases reason <;> rfl
  · rintro rfl
    exact ⟨rfl, rfl⟩
  · rintro rfl
    exact ⟨rfl, rfl⟩
  · cases reason <;> rfl

/-! ## A held announce tried again -/

/-- The meaning of HELD_ANNOUNCE_RETRY for a hold with reason JOB_LIMIT (R30; logs 2 and 17). -/
theorem exec_heldAnnounceRetry_waiting {h : Held} (hlive : s.resetLow = false) (hstate : (s.lane l).state = .waiting)
    (hheld : (s.lane l).held = some h) (hreason : h.reason = .jobLimit) :
    exec (.heldAnnounceRetry l) s =
      .next (if s.laneJobs l + (if h.ann.len = 0 then 2 else 1) ≤ 2 then requestPlacement l h.ann h.slot s else s) := by
  have hexec : exec (.heldAnnounceRetry l) s = .next (if retryDue s l then retryJobLimit l s else s) := live_next s hlive
  have hdue : retryDue s l = true ↔ s.laneJobs l + (if h.ann.len = 0 then 2 else 1) ≤ 2 := by
    rw [← jobTest_iff]
    simp [retryDue, hstate, hheld, hreason]
  have hretry : retryJobLimit l s = requestPlacement l h.ann h.slot s := by
    simp [retryJobLimit, hstate, hheld, hreason]
  simp only [hexec, hdue, hretry]

/-- Settles O18: the retry is a placement request, or nothing. -/
theorem heldAnnounceRetried : Obligations.HeldAnnounceRetried := by
  refine ⟨fun s l h r hlive hstate hheld hreason => ?_,
    fun s l h r f hlive hstate hheld hreason hjobs hfind htable hopen hroom hsize => ?_⟩
  · have hexec := exec_heldAnnounceRetry_waiting hlive hstate hheld hreason
    refine ⟨fun hjobs => ?_, fun hjobs hfind => ?_⟩
    · rw [hexec, if_neg (Nat.not_le.2 hjobs)]
    · rw [hexec, if_pos hjobs]
      exact ⟨_, rfl, requestPlacement_decided hlive hfind⟩
  · have hexec := exec_heldAnnounceRetry_waiting hlive hstate hheld hreason
    rw [if_pos hjobs, requestPlacement_fits hjobs htable hopen ⟨hroom, hsize⟩] at hexec
    refine ⟨_, hexec, fun hlen => ?_, fun hlen => ?_, placeFile_answered hopen hfind,
      (placeFile_others hopen).2⟩
    · have hplaced := placeFile_placedIn (l := l) (slot := h.slot) hopen hlen
      exact ⟨hplaced, hplaced.sealedAsDue hopen⟩
    · have hplaced := placeFile_emptyPlacedIn (l := l) (slot := h.slot) hopen hlen
      exact ⟨hplaced, hplaced.sealedAsDue hopen⟩

/-! ## A misfit -/

/-- What an examination may change of a frame: its image_length and its stage (R125). -/
theorem examine_frame_same (s : State) (f : FrameNo) :
    ∃ il stage, (examine f s).frame f = { s.frame f with imageLength := il, stage := stage } := by
  rw [examine]
  split
  · exact ⟨_, _, frame_modFrame_same s f fun fr => { fr with imageLength := some fr.finalLength, stage := .writing }⟩
  · exact ⟨_, _, rfl⟩

theorem examine_frame_other {g : FrameNo} (h : g ≠ f) (s : State) : (examine f s).frame g = s.frame g := by
  rw [examine]
  split
  · exact frame_modFrame_other s h fun fr => { fr with imageLength := some fr.finalLength, stage := .writing }
  · rfl

theorem examine_port (s : State) (f : FrameNo) (p : Port) :
    examine f { s with port := p } = { examine f s with port := p } := by
  have hready : sealIsReady { s with port := p } f = sealIsReady s f := rfl
  simp only [examine, hready]
  split <;> rfl

/-- A seal does not look at the ports. -/
theorem enterSealing_port (s : State) (f : FrameNo) (cause : SealCause) (p : Port) :
    enterSealing f cause { s with port := p } = { enterSealing f cause s with port := p } := by
  have hmark : markSealing f cause { s with port := p } = { markSealing f cause s with port := p } := by
    unfold markSealing
    cases hcls : (s.frame f).cls <;> simp only [State.frame] at hcls ⊢ <;> rw [hcls]
    · rfl
    · rfl
  rw [enterSealing, hmark, examine_port, enterSealing]

/-- The frame that a seal leaves: its cause and tick, its cursor and entries as before (R54). -/
theorem enterSealing_frame_same (s : State) (f : FrameNo) (cause : SealCause) :
    ∃ il stage, (enterSealing f cause s).frame f =
      { (s.frame f).sealedBy cause s.tick with imageLength := il, stage := stage } := by
  have hmarked : (markSealing f cause s).frame f = (s.frame f).sealedBy cause s.tick := by
    unfold markSealing
    split <;> exact frame_modFrame_same s f (Frame.sealedBy cause s.tick)
  obtain ⟨il, stage, hexamined⟩ := examine_frame_same (markSealing f cause s) f
  exact ⟨il, stage, hexamined.trans (by rw [hmarked])⟩

theorem enterSealing_frame_other {g : FrameNo} (h : g ≠ f) (s : State) (cause : SealCause) :
    (enterSealing f cause s).frame g = s.frame g := by
  rw [enterSealing, examine_frame_other h]
  unfold markSealing
  split <;> exact frame_modFrame_other s h fun fr => { fr with
    state := .sealing, sealCause := some cause, sealTick := some s.tick, stage := .gathering, ageReported := false }

theorem enterSealing_classFrame {c : ClassNo} (hcls : (s.frame f).cls = some c) (cause : SealCause) :
    (enterSealing f cause s).classFrame c = none := by
  rw [enterSealing, examine_classFrame, markSealing_of_bound cause hcls, classFrame_set_same]

/-- The OPEN frame of a class is sealed by a misfit as SEAL_READY has it (R54). -/
theorem enterSealing_sealsWith (hlive : s.resetLow = false) {c : ClassNo} (hcls : (s.frame f).cls = some c)
    (cause : SealCause) : SealsWith cause c f s (enterSealing f cause s) := by
  rw [SealsWith, exec_sealReady_live (by simpa using hlive), enterSealing, markSealing_of_bound cause hcls]
  rfl

/-- Settles O19: step 4 of R48 seals the frame, and steps 5 and 6 act on what is left. -/
theorem misfitSealsTheFrame : Obligations.MisfitSealsTheFrame := by
  refine ⟨fun s src l w a f htakes hkind hvalid ha hstate hjobs htable hopen hcls hmisfit => ?_,
    fun s src l w a f htakes hkind hvalid ha hstate hjobs htable hopen hcls hmisfit hnone => ?_⟩
  all_goals
    obtain ⟨r, hfind, htag⟩ := findRecord_announcePort (s := s) (l := l) src w.tag
    have hexec := exec_announce_placing htakes hkind hvalid ha hstate
    obtain ⟨hopens, hholds⟩ := placeInNew_opens (l := l) (a := a)
      (enterSealing_free (s := announceTaken s src l w.tag) hopen .misfit) (enterSealing_items ..)
      (by rw [announceTaken, enterSealing_port]) hfind
    rw [announceTaken, enterSealing_port] at hopens hholds
  · rw [requestPlacement_misfit (s := announceTaken s src l w.tag) hjobs htable hopen hmisfit, announceTaken,
      enterSealing_port] at hexec
    refine ⟨_, _, enterSealing_sealsWith htakes.1 hcls .misfit, hexec, fun g hg => ?_, hholds⟩
    obtain ⟨hopened, hanswered⟩ := hopens g hg
    rw [htag] at hanswered
    exact ⟨hopened.of_port, hanswered.trans (okayAnswered_announcePort src w.tag)⟩
  · have hunfit : ¬ Fits s f a.len := fun ⟨hroom, hsize⟩ => by omega
    rw [requestPlacement_misfit (s := announceTaken s src l w.tag) hjobs htable hopen hunfit, announceTaken,
      enterSealing_port, hholds hnone] at hexec
    obtain ⟨il, stage, hframe⟩ := enterSealing_frame_same s f .misfit
    obtain ⟨frames, classTable, fill, hfixed⟩ := enterSealing_fixed s f .misfit
    obtain ⟨hwaiting, hhold⟩ := heldOn_lane_same (l := l) a .noFrame ((afterLeaving src s).freshSlot .write)
      { enterSealing f .misfit s with port := announcePort s src l w.tag }
    have htable' := enterSealing_classFrame hcls .misfit
    have hothers := fun g (hg : g ≠ f) => enterSealing_frame_other hg s .misfit
    refine ⟨_, hexec, ?_, ?_, ?_, ?_, ?_, htable', hothers, hwaiting, ⟨_, hhold, rfl, rfl⟩,
      List.mem_append_right _ (List.mem_singleton.2 rfl), ?_, ?_, fun k hk => ?_, ?_⟩
    · exact (congrArg Frame.state hframe).trans rfl
    · exact (congrArg Frame.sealCause hframe).trans rfl
    · exact (congrArg Frame.sealTick hframe).trans rfl
    · exact (congrArg Frame.cursor hframe).trans rfl
    · exact (congrArg Frame.entries hframe).trans rfl
    · rw [hfixed]
      rfl
    · cases src <;> rfl
    · exact (heldOn_lane_other hk a _ _ _).trans (enterSealing_lane s f .misfit k)
    · rw [hfixed]
      rfl

end Sys2Proof.Machine
end

section
/-! PROOFS. The end of a void: the settled statement VoidEnds (R34, R78, R79, R90). -/

namespace Sys2Proof.Machine

open Sys2Proof.Config

variable {s t u : State} {l : LaneNo} {f : FrameNo} {e : Nat} {en : Entry}

/-- The state once a void of lane `l`'s file has ended, and before its lane goes on (R79). -/
def voidEnded (l : LaneNo) (f : FrameNo) (e : Nat) (en : Entry) (code : ResultCode) (s : State) : State :=
  { modLane l (fun ln => { ln.pushResult (voidResult code e en (s.frame f).serial) with
        voided := ln.voided + 1, file := none, extents := [], outstanding := 0, timer := none, firstWrite := false
        voidCause := none, lastWrite := none })
      (modEntry f e (fun x => { x with
          state := .void, endTick := some s.tick
          received := ((s.lane l).extents.map fun x => x.stop - x.start).sum })
        (modFrame f (fun fr => { fr with sums := fr.sums.withdraw en.sums ((en.off + 64) / 4) }) s)) with
    fill := { queue := s.fill.queue ++
                [{ kind := .voidFill, frame := f, lane := some l, start := en.off + 64
                   stop := en.off + recordSize en.len, source := .zeros }]
              progress := if s.fill.queue = [] then some { next := en.off + 64, issued := 0, answered := 0 }
                          else s.fill.progress }
    attn := { s.attn with laneErr := true } }

/-- A frame with a job into it is not ready (R125). -/
theorem examine_of_job (h : ∃ j ∈ s.fill.queue, j.frame = f) : examine f s = s := by
  obtain ⟨j, hj, hjf⟩ := h
  exact if_neg fun hready => ((sealIsReady_iff s f).1 hready).2.2 j hj hjf

theorem pushResult_muteMark (ln : Lane) (r : Result) : (ln.pushResult r).muteMark = ln.muteMark := by
  unfold Lane.pushResult
  split <;> rfl

/-- The record of a void's end, up to what the lane then does. -/
def voidRecorded (l : LaneNo) (f : FrameNo) (e : Nat) (en : Entry) (s : State) : State :=
  recordVoid l f e en <| modEntry f e (Entry.voided (claimedBytes (s.lane l).extents) s.tick) <|
    enqueueJob (voidFillJob l f en) <| withdrawShare f en s

theorem voidRecorded_eq (l : LaneNo) (f : FrameNo) (e : Nat) (en : Entry) (s : State) :
    voidRecorded l f e en s =
      { modLane l (fun ln => { ln.pushResult (voidResult (ln.voidCause.getD .timeout).result e en (s.frame f).serial) with
            voided := ln.voided + 1 })
          (modEntry f e (Entry.voided (claimedBytes (s.lane l).extents) s.tick) (withdrawShare f en s)) with
        fill := (enqueueJob (voidFillJob l f en) s).fill, attn := { s.attn with laneErr := true } } := by
  have hserial : ((modEntry f e (Entry.voided (claimedBytes (s.lane l).extents) s.tick)
      (enqueueJob (voidFillJob l f en) (withdrawShare f en s))).frame f).serial = (s.frame f).serial := by
    simp [modEntry, withdrawShare]
  simp only [voidRecorded, recordVoid, fileResult, hserial]
  rfl

theorem voidRecorded_lane_same (l : LaneNo) (f : FrameNo) (e : Nat) (en : Entry) (s : State) :
    (voidRecorded l f e en s).lane l =
      { (s.lane l).pushResult (voidResult ((s.lane l).voidCause.getD .timeout).result e en (s.frame f).serial) with
        voided := (s.lane l).voided + 1 } := by
  rw [voidRecorded_eq]
  exact lane_modLane_same (modEntry f e (Entry.voided (claimedBytes (s.lane l).extents) s.tick) (withdrawShare f en s)) l
    fun ln => { ln.pushResult (voidResult (ln.voidCause.getD .timeout).result e en (s.frame f).serial) with
          voided := ln.voided + 1 }

@[simp] theorem voidRecorded_lane (l : LaneNo) (f : FrameNo) (e : Nat) (en : Entry) (s : State) :
    ((voidRecorded l f e en s).lane l).held = (s.lane l).held ∧
      ((voidRecorded l f e en s).lane l).muteMark = (s.lane l).muteMark := by
  rw [voidRecorded_lane_same]
  exact ⟨pushResult_held .., pushResult_muteMark ..⟩

/-- The void's end drops the file from the lane and is otherwise what is recorded. -/
theorem dropFile_voidRecorded {cause : VoidCause} (hentry : s.entry? f e = some en) (hvoiding : en.state = .voiding)
    (hcause : (s.lane l).voidCause = some cause) :
    modLane l Lane.dropFile (voidRecorded l f e en s) = voidEnded l f e en cause.result s := by
  have hentry' : (withdrawShare f en s).entry? f e = some en := by
    rw [← hentry, State.entry?, withdrawShare, frame_modFrame_same]
    rfl
  have hvoided : modEntry f e (Entry.voided (claimedBytes (s.lane l).extents) s.tick) (withdrawShare f en s) =
      modEntry f e (fun x => { x with
        state := .void, endTick := some s.tick, received := ((s.lane l).extents.map fun x => x.stop - x.start).sum })
      (withdrawShare f en s) := modEntry_congr hentry' (if_pos (by simp [hvoiding]))
  have hlane : ∀ u : State, u.lane l = s.lane l →
      modLane l Lane.dropFile (modLane l (fun ln =>
          { ln.pushResult (voidResult (ln.voidCause.getD .timeout).result e en (s.frame f).serial) with
            voided := ln.voided + 1 }) u) =
        modLane l (fun ln => { ln.pushResult (voidResult cause.result e en (s.frame f).serial) with
          voided := ln.voided + 1, file := none, extents := [], outstanding := 0, timer := none, firstWrite := false
          voidCause := none, lastWrite := none }) u := fun u hu =>
    (modLane_modLane u l _ _).trans (modLane_congr u l (by rw [hu, hcause]; rfl))
  have hrest := congrArg (fun v : State => { v with
      fill := {
        queue := s.fill.queue ++ [voidFillJob l f en]
        progress := if s.fill.queue = [] then some { next := en.off + 64, issued := 0, answered := 0 } else s.fill.progress }
      attn := { s.attn with laneErr := true } })
    (hlane (modEntry f e (Entry.voided (claimedBytes (s.lane l).extents) s.tick) (withdrawShare f en s)) rfl)
  rw [voidRecorded_eq, enqueueJob_eq]
  refine hrest.trans ?_
  rw [hvoided]
  rfl

/-- The end of a void examines nothing: its job is into the frame (R79, R125). -/
theorem endVoid_eq (hfile : (s.lane l).file = some (f, e)) (hentry : s.entry? f e = some en) :
    endVoid l s = afterVoid l (voidRecorded l f e en s) := by
  have hjob : ∃ j ∈ (voidRecorded l f e en s).fill.queue, j.frame = f :=
    ⟨voidFillJob l f en, List.mem_append_right _ (List.mem_singleton.2 rfl), rfl⟩
  rw [endVoid, currentFile_some hfile hentry]
  exact congrArg (afterVoid l) (examine_of_job hjob)

/-- What the end of a void leaves of every frame (R79). -/
theorem voidEnded_frame (l : LaneNo) (f : FrameNo) (e : Nat) (en : Entry) (code : ResultCode) (s : State) (g : FrameNo) :
    ((voidEnded l f e en code s).frame g).state = (s.frame g).state ∧
      ((voidEnded l f e en code s).frame g).cursor = (s.frame g).cursor ∧
      ((voidEnded l f e en code s).frame g).entries.length = (s.frame g).entries.length := by
  have hframe : (voidEnded l f e en code s).frame g = (modEntry f e _ (withdrawShare f en s)).frame g := rfl
  rw [hframe, modEntry, withdrawShare, modFrame_modFrame, frame_modFrame]
  split
  · next h =>
    subst h
    exact ⟨rfl, rfl, List.length_modify ..⟩
  · exact ⟨rfl, rfl, rfl⟩

/-- The VOID_FILL job counts towards the lane's jobs (R48 step 1). -/
theorem voidEnded_laneJobs (l : LaneNo) (f : FrameNo) (e : Nat) (en : Entry) (code : ResultCode) (s : State) :
    (voidEnded l f e en code s).laneJobs l = s.laneJobs l + 1 := by
  simp [voidEnded, State.laneJobs]

/-- Settles O28: the end of a void is the record update `voidEnded`, and a held announce then goes to placement. -/
theorem voidEnds : Obligations.VoidEnds := by
  intro s l f e en cause hlive hstate houtstanding hjobs hfile hentry hvoiding hcause code ended waits
  have hended : ended = voidEnded l f e en cause.result s := by cases cause <;> rfl
  have hmay : voidMayEnd s l = true := by simp [voidMayEnd, hstate, houtstanding, hjobs]
  obtain ⟨hrecheld, hrecmute⟩ := voidRecorded_lane l f e en s
  have hdrop : modLane l Lane.dropFile (voidRecorded l f e en s) = ended :=
    (dropFile_voidRecorded hentry hvoiding hcause).trans hended.symm
  have hexec : exec (.voidEnd l) s = .next (afterVoid l (voidRecorded l f e en s)) := by
    rw [exec_voidEnd_voiding hlive hstate, tryVoidEnd, if_pos hmay, endVoid_eq hfile hentry]
  refine ⟨fun hheld => ?unheld, fun h hheld => ?held⟩
  case unheld =>
    have hafter : afterVoid l (voidRecorded l f e en s) = modLane l (fun ln => { ln.dropFile with
        state := if ln.muteMark then .muted else .idle, muteMark := false }) (voidRecorded l f e en s) := by
      rw [afterVoid, hrecheld, hheld]
    rw [hexec, hafter, ← hdrop, modLane_modLane]
    exact congrArg _ (modLane_congr _ l (by rw [hrecmute]))
  case held =>
    have hafter : afterVoid l (voidRecorded l f e en s) = requestPlacement l h.ann h.slot ended := by
      rw [afterVoid, hrecheld, hheld, ← hdrop]
    rw [hexec, hafter]
    have hcount : ended.laneJobs l = s.laneJobs l + 1 := by rw [hended, voidEnded_laneJobs]
    have hwaits : ∀ reason,
        modLane l (Lane.wait h.ann reason { start := s.tick, reported := false } h.slot) ended = waits h reason :=
      fun reason => by
        show modLane l _ ended = modLane l _ ended
        rw [← hdrop, modLane_modLane, modLane_modLane]
        rfl
    have htest : s.laneJobs l = 0 → h.ann.len ≠ 0 → ended.laneJobs l + (if h.ann.len = 0 then 2 else 1) ≤ 2 :=
      fun hnone hlen => by rw [hcount, hnone, if_neg hlen]
    have hframe := fun g => hended ▸ voidEnded_frame l f e en cause.result s g
    refine ⟨fun hmany => ?jobLimit, fun hnone hlen htable hfree => ?noFrame,
      fun r g hnone hlen hfind htable hopen hroom hsize => ?placed, fun r hfind => ⟨_, rfl, ?decided⟩⟩
    case jobLimit =>
      have htest : 2 < ended.laneJobs l + (if h.ann.len = 0 then 2 else 1) := by
        rw [hcount]
        split <;> omega
      exact congrArg _ ((requestPlacement_jobLimit htest).trans (hwaits .jobLimit))
    case noFrame =>
      have hfree' : NoneFree ended := fun g hg => (hframe g).1 ▸ hfree g hg
      have hheldOn := (requestPlacement_noTable (htest hnone hlen) htable).trans
        (placeInNew_noneFree (l := l) (a := h.ann) (slot := h.slot) hfree')
      rw [hheldOn, ← hwaits]
      rfl
    case placed =>
      obtain ⟨hopen', hcursor, hlength⟩ := hframe g
      have hopen'' : (ended.frame g).state = .opened := hopen'.trans hopen
      have hfits : Fits ended g h.ann.len := by rw [Fits, hlength, hcursor]; exact ⟨hroom, hsize⟩
      have hplaced := placeFile_placedIn (l := l) (slot := h.slot) hopen'' hlen
      have hsealed := hplaced.sealedAsDue hopen''
      rw [hcursor, hlength] at hsealed
      exact ⟨_, congrArg _ (requestPlacement_fits (htest hnone hlen) htable hopen'' hfits), hplaced, hsealed,
        placeFile_answered hopen'' hfind, (placeFile_others hopen'').2⟩
    case decided => exact requestPlacement_decided hlive hfind

end Sys2Proof.Machine
end

section
/-! PROOFS. The completion of a file and of a fill job: the settled statements FileCompletes (R76) and FillJobCompletes (R115,
R127, R128). -/

namespace Sys2Proof.Machine

open Sys2Proof.Config

variable {s t u : State} {l : LaneNo} {f : FrameNo} {e : Nat} {en : Entry}

/-! ## The seal unit after a file's completion -/

/-- An examination leaves everything but its frame and the job queue. -/
theorem examine_fixed (s : State) (f : FrameNo) : ∃ frames fill, examine f s = { s with frames := frames, fill := fill } := by
  rw [examine]
  split
  · exact ⟨_, _, rfl⟩
  · exact ⟨_, _, rfl⟩

/-- The seal that SEAL_AFTER asks for, and the examination of the frame (R76). -/
def sealAfterFile (f : FrameNo) (en : Entry) (s : State) : State := examine f (sealAfterRequest f en s)

theorem sealAfterFile_fixed (s : State) (f : FrameNo) (en : Entry) :
    ∃ frames classTable fill, sealAfterFile f en s = { s with frames := frames, classTable := classTable, fill := fill } := by
  have hrequest : ∃ frames classTable fill,
      sealAfterRequest f en s = { s with frames := frames, classTable := classTable, fill := fill } := by
    rw [sealAfterRequest, requestSeal]
    split
    · split
      · exact enterSealing_fixed s f .sealAfter
      · exact ⟨_, _, _, rfl⟩
    · exact ⟨_, _, _, rfl⟩
  obtain ⟨frames, classTable, fill, hsealed⟩ := hrequest
  obtain ⟨frames', fill', hexamined⟩ := examine_fixed (sealAfterRequest f en s) f
  exact ⟨frames', classTable, fill', by rw [sealAfterFile, hexamined, hsealed]⟩

theorem sealAfterRequest_eq (f : FrameNo) (en : Entry) (s : State) :
    sealAfterRequest f en s =
      if (s.frame f).state = .opened ∧ en.sealAfter = true then enterSealing f .sealAfter s else s := by
  rw [sealAfterRequest, requestSeal]
  cases en.sealAfter <;> simp

/-- The file's frame after the seal and the examination: what they leave of it. -/
theorem sealAfterFile_frame_same (s : State) (f : FrameNo) (en : Entry) :
    ∃ il stage, (sealAfterFile f en s).frame f =
      { (if (s.frame f).state = .opened ∧ en.sealAfter = true then (s.frame f).sealedBy .sealAfter s.tick else s.frame f) with
        imageLength := il, stage := stage } := by
  obtain ⟨il, stage, hexamined⟩ := examine_frame_same (sealAfterRequest f en s) f
  rw [sealAfterFile, hexamined, sealAfterRequest_eq]
  split
  · obtain ⟨il', stage', hsealed⟩ := enterSealing_frame_same s f .sealAfter
    exact ⟨il, stage, by rw [hsealed]⟩
  · exact ⟨il, stage, rfl⟩

theorem sealAfterFile_frame_other {g : FrameNo} (h : g ≠ f) (s : State) (en : Entry) :
    (sealAfterFile f en s).frame g = s.frame g := by
  rw [sealAfterFile, examine_frame_other h, sealAfterRequest_eq]
  split
  · exact enterSealing_frame_other h s .sealAfter
  · rfl

/-- A job into the frame keeps it from being ready (R125). -/
theorem sealAfterFile_queue (hjob : ∃ j ∈ s.fill.queue, j.frame = f) (en : Entry) :
    (sealAfterFile f en s).fill.queue = s.fill.queue := by
  have hrequest : (sealAfterRequest f en s).fill = s.fill := by
    rw [sealAfterRequest_eq]
    split
    · rw [enterSealing, examine_of_job (by rwa [markSealing_fill]), markSealing_fill]
    · rfl
  rw [sealAfterFile, examine_of_job (by rwa [hrequest]), hrequest]

/-! ## The completion of a file -/

/-- The PAD job joins the queue unless the pad is empty (R76). -/
theorem enqueuePad_fixed (l : LaneNo) (f : FrameNo) (en : Entry) (s : State) :
    ∃ fill, enqueuePad l f en s = { s with fill := fill } ∧
      (padEmpty en.len = false → fill.queue = s.fill.queue ++ [padJob l f en]) := by
  rw [enqueuePad]
  split
  · next h => exact ⟨_, rfl, fun hpad => by simp [hpad] at h⟩
  · exact ⟨_, rfl, fun _ => rfl⟩

/-- A file completes: its entry, its lane and its answer, and then the seal unit (R76). -/
theorem finishFile_eq {slot : Nat} {r : OpenReq} (hfind : s.findRecord .write slot = some r) :
    ∃ fill, (padEmpty en.len = false → fill.queue = s.fill.queue ++ [padJob l f en]) ∧
      finishFile l f e en slot s = sealAfterFile f en
        { modLane l (Lane.completes (completionResult e en (s.frame f))) (modFrame f (Frame.completes e s.tick) s) with
          fill := fill, port := okayAnswered s.port slot r.tag } := by
  obtain ⟨fill, hpadded, hqueue⟩ := enqueuePad_fixed l f en (modEntry f e (Entry.completed s.tick) s)
  refine ⟨fill, hqueue, ?_⟩
  have hfind' : (laneCompletes l (completionResult e en (s.frame f))
      { modEntry f e (Entry.completed s.tick) s with fill := fill }).findRecord .write slot = some r := hfind
  rw [finishFile, hpadded, answerRecord_write hfind']
  rfl

/-- A stop that ends changes run control only (R177). -/
theorem tryStop_fixed (s : State) : ∃ run, tryStop s = { s with run := run } := by
  rw [tryStop]
  split
  · exact ⟨_, rfl⟩
  · exact ⟨_, rfl⟩

theorem getLast?_pushResult (ln : Lane) (r : Result) : (ln.pushResult r).results.getLast? = some r := by
  rw [Lane.pushResult]
  split <;> simp

/-- Settles O27: the completion is a record update, followed by the seal unit and the test of a stop. -/
theorem fileCompletes : Obligations.FileCompletes := by
  intro s l f e en slot r hlive hstate hfile hentry hplaced hlast hfind hroom
  have hcomplete : tryComplete l s = finishFile l f e en slot s := by
    have hjobs : jobRoom s l en = true := by
      rw [jobRoom, padEmpty, Bool.or_eq_true, beq_iff_eq, decide_eq_true_eq]
      exact hroom
    simp [tryComplete, hlast, currentFile_some hfile hentry, hstate, hjobs]
  obtain ⟨fill, hqueue, hfinish⟩ := finishFile_eq (l := l) (f := f) (e := e) (en := en) hfind
  obtain ⟨run, hstop⟩ := tryStop_fixed (tryComplete l s)
  rw [hcomplete, hfinish] at hstop
  generalize hw : ({ modLane l (Lane.completes (completionResult e en (s.frame f))) (modFrame f (Frame.completes e s.tick) s) with
      fill := fill, port := okayAnswered s.port slot r.tag } : State) = w at hstop
  have hlane : w.lane l = (s.lane l).completes (completionResult e en (s.frame f)) := by
    rw [← hw]
    exact lane_modLane_same (modFrame f (Frame.completes e s.tick) s) l _
  have hlanes : ∀ k, k ≠ l → w.lane k = s.lane k := fun k hk => by
    rw [← hw]
    exact lane_modLane_other (modFrame f (Frame.completes e s.tick) s) hk _
  have hframe : w.frame f = (s.frame f).completes e s.tick := by
    rw [← hw]
    exact frame_modFrame_same s f (Frame.completes e s.tick)
  have hframes : ∀ g, g ≠ f → w.frame g = s.frame g := fun g hg => by
    rw [← hw]
    exact frame_modFrame_other s hg (Frame.completes e s.tick)
  obtain ⟨frames, classTable, fill', hfixed⟩ := sealAfterFile_fixed w f en
  obtain ⟨il, stage, hsame⟩ := sealAfterFile_frame_same w f en
  rw [hframe] at hsame
  have hentries : ((sealAfterFile f en w).frame f).entries = (s.frame f).entries.modify e (Entry.completed s.tick) := by
    rw [hsame]
    split <;> rfl
  have hlane' : (sealAfterFile f en w).lane l = (s.lane l).completes (completionResult e en (s.frame f)) := by
    rw [hfixed]
    exact hlane
  refine ⟨_, exec_fileCompletion_receiving hlive hstate, ?_⟩
  rw [hcomplete, hfinish, hw, hstop]
  refine ⟨?entry, ?port, ?state, ?file, ?extents, ?timer, ?completed,
    ⟨completionResult e en (s.frame f), ?last, rfl, rfl, rfl, rfl, rfl, rfl, rfl, rfl⟩,
    fun hpad => ?queue, fun hafter hopen => ?sealed, fun k hk => ?lanes, fun g hg => ?frames, ?rest⟩
  case entry =>
    have hcompleted : en.completed s.tick = { en with
        state := .complete, endTick := some s.tick, received := en.len, mismatch := en.differs } :=
      if_pos (by simp [hplaced])
    have hentry' : ((sealAfterFile f en w).frame f).entries[e]? = some (en.completed s.tick) := by
      have : (s.frame f).entries[e]? = some en := hentry
      rw [hentries, List.getElem?_modify_eq, this]
      rfl
    exact hentry'.trans (by rw [hcompleted]; rfl)
  case port =>
    rw [hfixed, ← hw]
    rfl
  case state => exact congrArg Lane.state hlane'
  case file => exact congrArg Lane.file hlane'
  case extents => exact congrArg Lane.extents hlane'
  case timer => exact congrArg Lane.timer hlane'
  case completed => exact congrArg Lane.completed hlane'
  case last => exact (congrArg (fun ln : Lane => ln.results.getLast?) hlane').trans (getLast?_pushResult ..)
  case queue =>
    have hpadded := hqueue (by simpa [padEmpty] using hpad)
    have hjob : ∃ j ∈ w.fill.queue, j.frame = f := ⟨padJob l f en, by rw [← hw, hpadded]; simp, rfl⟩
    refine (sealAfterFile_queue hjob en).trans ?_
    rw [← hw]
    exact hpadded
  case sealed =>
    rw [if_pos ⟨hopen, hafter⟩] at hsame
    exact ⟨congrArg Frame.state hsame, congrArg Frame.sealCause hsame⟩
  case lanes => exact (congrArg (fun v : State => v.lane k) hfixed).trans (hlanes k hk)
  case frames => exact (sealAfterFile_frame_other hg w en).trans (hframes g hg)
  case rest =>
    rw [hfixed, ← hw]
    rfl

/-! ## What a placement request leaves -/

/-- Between `s` and `t` only what a placement may change has changed. -/
def PlacementOnly (s t : State) : Prop :=
  ∃ port lanes frames classTable fill waitList attn opened nextSerial,
    t = { s with port := port, lanes := lanes, frames := frames, classTable := classTable, fill := fill
                 waitList := waitList, attn := attn, run := { s.run with opened := opened }, nextSerial := nextSerial }

theorem PlacementOnly.refl (s : State) : PlacementOnly s s := ⟨_, _, _, _, _, _, _, _, _, rfl⟩

theorem PlacementOnly.after (k : PlacementOnly t u) (h : PlacementOnly s t) : PlacementOnly s u := by
  obtain ⟨_, _, _, _, _, _, _, _, _, rfl⟩ := h
  obtain ⟨_, _, _, _, _, _, _, _, _, rfl⟩ := k
  exact ⟨_, _, _, _, _, _, _, _, _, rfl⟩

theorem PlacementOnly.resetLow (h : PlacementOnly s t) : t.resetLow = s.resetLow := by
  obtain ⟨_, _, _, _, _, _, _, _, _, rfl⟩ := h
  rfl

theorem PlacementOnly.running (h : PlacementOnly s t) : t.run.running = s.run.running := by
  obtain ⟨_, _, _, _, _, _, _, _, _, rfl⟩ := h
  rfl

theorem PlacementOnly.owed (h : PlacementOnly s t) : t.owed = s.owed := by
  obtain ⟨_, _, _, _, _, _, _, _, _, rfl⟩ := h
  rfl

theorem heldOn_only (l : LaneNo) (a : Announce) (reason : WaitReason) (slot : Nat) (s : State) :
    PlacementOnly s (heldOn l a reason slot s) := by
  cases reason <;> exact ⟨_, _, _, _, _, _, _, _, _, rfl⟩

theorem placeFile_only (a : Announce) (slot : Nat) (hopen : (s.frame f).state = .opened) :
    PlacementOnly s (placeFile l a slot f s) := by
  by_cases hlen : a.len = 0
  · rw [placeFile_empty_eq hopen hlen]
    exact ⟨_, _, _, _, _, _, _, _, _, rfl⟩
  · rw [placeFile_eq hopen hlen]
    exact ⟨_, _, _, _, _, _, _, _, _, rfl⟩

theorem openFrame_state (s : State) (g : FrameNo) (c : ClassNo) : ((openFrame g c s).frame g).state = .opened := by
  rw [openFrame_frame_same]
  rfl

theorem placeInNew_only (l : LaneNo) (a : Announce) (slot : Nat) (s : State) : PlacementOnly s (placeInNew l a slot s) := by
  rw [placeInNew]
  split
  · next g _ =>
    have hopened : PlacementOnly s (openFrame g a.cls s) := ⟨_, _, _, _, _, _, _, _, _, rfl⟩
    exact .after (placeFile_only a slot (openFrame_state s g a.cls)) hopened
  · rw [holdPlaced_eq]
    exact heldOn_only l a .noFrame slot s

theorem enterSealing_only (s : State) (f : FrameNo) (cause : SealCause) : PlacementOnly s (enterSealing f cause s) := by
  obtain ⟨frames, classTable, fill, h⟩ := enterSealing_fixed s f cause
  rw [h]
  exact ⟨_, _, _, _, _, _, _, _, _, rfl⟩

theorem requestPlacement_only (l : LaneNo) (a : Announce) (slot : Nat) (s : State) :
    PlacementOnly s (requestPlacement l a slot s) := by
  rw [requestPlacement]
  split
  · rw [holdPlaced_eq]
    exact heldOn_only l a .jobLimit slot s
  · split
    · next f hopen =>
      split
      · exact placeFile_only a slot (openFrameOf_opened hopen).2
      · exact .after (placeInNew_only l a slot _) (enterSealing_only s f .misfit)
    · exact placeInNew_only l a slot s

/-! ## The completion of a fill job -/

/-- A current job whose bursts are all offered and answered completes (R115). -/
theorem exec_fillJobComplete_done {j : Job} {rest : List Job} {p : Progress} (hlive : s.resetLow = false)
    (hqueue : s.fill.queue = j :: rest) (hprogress : s.fill.progress = some p) (hoffered : j.stop ≤ p.next)
    (hanswered : p.answered = p.issued) :
    exec .fillJobComplete s = .next (tryStop (jobReports j { s with fill := {
      queue := rest, progress := rest.head?.map fun k => { next := k.start, issued := 0, answered := 0 } } })) := by
  have hdone : jobIsDone s = true := by simp [jobIsDone, currentJob_cons hqueue hprogress, hoffered, hanswered]
  have hpop : popJob s = { s with fill := {
      queue := rest, progress := rest.head?.map fun k => { next := k.start, issued := 0, answered := 0 } } } := by
    rw [popJob, hqueue]
    rfl
  have hexec : exec .fillJobComplete s = .next (tryCompleteJob s) := live_next s hlive
  rw [hexec, tryCompleteJob, if_pos hdone]
  simp only [completeJob, hqueue, hpop]

/-- The directory is written: the frame is SEALED, or HELD with its image-fault flag (R127, R128). -/
theorem sealComplete_eq (hstate : (s.frame f).state = .sealing) (hstage : (s.frame f).stage = .writing) :
    let ends (st : FrameState) : State :=
      modFrame f (fun fr => { fr with
        state := st, cls := none, stage := .none
        drain := some { cursor := 0, broken := false, outstanding := 0, sums := { a := 0, b := 0 }, timer := none } }) s
    sealComplete f s =
      if (s.frame f).imageFault then
        { ends .held with run := { s.run with heldN := s.run.heldN + 1 }, attn := { s.attn with packHeld := true } }
      else { ends .sealed with run := { s.run with sealedN := s.run.sealedN + 1 }, sealQ := s.sealQ ++ [f] } := by
  intro ends
  rw [sealComplete, if_pos (by simp [hstate, hstage])]
  rfl

@[simp] theorem examine_resetLow (s : State) (f : FrameNo) : (examine f s).resetLow = s.resetLow := by
  obtain ⟨frames, fill, h⟩ := examine_fixed s f
  rw [h]

@[simp] theorem requestPlacement_resetLow (l : LaneNo) (a : Announce) (slot : Nat) (s : State) :
    (requestPlacement l a slot s).resetLow = s.resetLow := (requestPlacement_only l a slot s).resetLow

/-- Settles O36: the job leaves the queue, the seal unit acts on its frame, and then the lane of a file job by its state. -/
theorem fillJobCompletes : Obligations.FillJobCompletes := by
  intro s j rest p hlive hqueue hprogress hoffered hanswered left
  have hexec := exec_fillJobComplete_done hlive hqueue hprogress hoffered hanswered
  have hlow : left.resetLow = false := hlive
  refine ⟨fun hkind hlane hstate hstage => ?directory, fun hkind => ⟨_, examine j.frame left, hexec,
    exec_sealReady_live hlow, ?done, ?receiving, ?voiding, ?retried, ?heldAgain⟩⟩
  case directory =>
    intro ends
    have hreports : jobReports j left = _ :=
      (by simp [jobReports, hlane, sealReport, hkind] : jobReports j left = sealComplete j.frame left).trans
        (sealComplete_eq (s := left) hstate hstage)
    refine ⟨_, hexec, ?_⟩
    rw [hreports]
    refine exec_stopComplete_live ?_
    split <;> exact hlow
  all_goals
    have hsealed : sealReport j left = examine j.frame left := by simp [sealReport, hkind]
    have hlive' : (examine j.frame left).resetLow = false := by rw [examine_resetLow, hlow]
    have hlanes : ∀ l, (examine j.frame left).lane l = s.lane l := fun l => examine_lane left j.frame l
    have hreports : ∀ l, j.lane = some l → jobReports j left = laneReport l (examine j.frame left) := fun l hlane => by
      simp [jobReports, hlane, hsealed]
  case done =>
    have hnone : (j.lane = none ∨ ∃ l, j.lane = some l ∧ ((s.lane l).state = .idle ∨ (s.lane l).state = .muted)) →
        jobReports j left = examine j.frame left := by
      rintro (hlane | ⟨l, hlane, hstate⟩)
      · simp [jobReports, hlane, hsealed]
      · rw [hreports l hlane, laneReport, hlanes]
        rcases hstate with hstate | hstate <;> rw [hstate]
    intro hlane
    rw [hnone hlane]
    exact exec_stopComplete_live hlive'
  case receiving =>
    intro l hlane hstate
    rw [hreports l hlane, laneReport, hlanes, hstate]
    exact exec_fileCompletion_receiving hlive' (by rw [hlanes, hstate])
  case voiding =>
    intro l hlane hstate
    have hvoiding : ((examine j.frame left).lane l).state = .voiding := by rw [hlanes, hstate]
    have hstop : tryStop (tryVoidEnd l (examine j.frame left)) = tryVoidEnd l (examine j.frame left) := by
      rw [tryVoidEnd]
      split
      · exact tryStop_endVoid hvoiding
      · exact tryStop_of_voiding hvoiding
    rw [hreports l hlane, laneReport, hlanes, hstate, hstop]
    exact exec_voidEnd_voiding hlive' hvoiding
  all_goals
    intro l h hlane hstate hheld hreason hjobs
    have hretry : laneReport l (examine j.frame left) = requestPlacement l h.ann h.slot (examine j.frame left) := by
      simp [laneReport, retryJobLimit, hlanes, hstate, hheld, hreason]
    rw [hreports l hlane, hretry]
  case retried =>
    have hexec' := exec_heldAnnounceRetry_waiting hlive' (by rw [hlanes, hstate]) (by rw [hlanes, hheld]) hreason
    rw [if_pos hjobs] at hexec'
    exact ⟨_, hexec', exec_stopComplete_live ((requestPlacement_resetLow ..).trans hlive')⟩
  case heldAgain =>
    rw [requestPlacement_jobLimit hjobs]
    exact exec_stopComplete_live hlive'

end Sys2Proof.Machine
end

section
/-! PROOFS. Frames freed, and the wake pass: the settled statements PassEvaluated (R148, R153), FramesFreed (R152, R154) and
FreedFrameWakesALane (R59, R60). -/

namespace Sys2Proof.Machine

open Sys2Proof.Config

variable {s t u : State} {l : LaneNo} {f : FrameNo}

/-! ## One visit, and the pass -/

/-- A frame is FREE, or the OPEN frame of the announce's class fits it (R59). -/
def Served (s : State) (a : Announce) : Prop :=
  (∃ g, LowestFree s g) ∨ ∃ f, s.classFrame a.cls = some f ∧ (s.frame f).state = .opened ∧ Fits s f a.len

theorem visitMayPlace_iff {a : Announce} : visitMayPlace s a = true ↔ Served s a := by
  have hfree : (lowestFree s).isSome = true ↔ ∃ g, LowestFree s g := by
    simp only [Option.isSome_iff_exists, lowestFree_eq_some_iff]
  have hopen : ((openFrameOf s a.cls).any fun f => fits s f a.len) = true ↔
      ∃ f, s.classFrame a.cls = some f ∧ (s.frame f).state = .opened ∧ Fits s f a.len := by
    simp only [Option.any_eq_true, openFrameOf, Option.filter_eq_some_iff, beq_iff_eq, fits_iff, and_assoc]
  rw [visitMayPlace, Bool.or_eq_true, hfree, hopen, Served]

/-- The visit of a lane that can be served hands its announce to placement (R59). -/
theorem wakeLane_served {h : Held} (hheld : (s.lane l).held = some h) (hreason : h.reason = .noFrame)
    (hserved : Served s h.ann) :
    wakeLane l s = requestPlacement l h.ann h.slot (leaveWaitList l s) := by
  simp only [wakeLane, hheld, hreason, visitMayPlace_iff.2 hserved]
  rfl

/-- Any other lane is passed over (R59). -/
theorem wakeLane_passed (h : ∀ h, (s.lane l).held = some h → h.reason = .noFrame → ¬ Served s h.ann) : wakeLane l s = s := by
  rw [wakeLane]
  split
  · next x hheld =>
    refine if_neg fun hmay => ?_
    obtain ⟨hreason, hplace⟩ := Bool.and_eq_true_iff.1 hmay
    exact h x hheld (by simpa using hreason) (visitMayPlace_iff.1 hplace)
  · rfl

theorem wakeLane_only (l : LaneNo) (s : State) : PlacementOnly s (wakeLane l s) := by
  rw [wakeLane]
  split
  · split
    · exact .after (requestPlacement_only ..) ⟨_, _, _, _, _, _, _, _, _, rfl⟩
    · exact .refl s
  · exact .refl s

theorem wakeLane_visited (hlive : s.resetLow = false) (l : LaneNo) : Visited l s (wakeLane l s) := by
  refine ⟨fun h hheld hreason => ⟨fun hserved r hfind => ?_, fun hunserved => ?_⟩, fun hother => ?_⟩
  · rw [wakeLane_served hheld hreason hserved]
    exact requestPlacement_decided hlive hfind
  · refine wakeLane_passed fun h' hheld' _ => ?_
    rw [hheld] at hheld'
    cases hheld'
    exact hunserved
  · exact wakeLane_passed fun h hheld hreason => absurd hreason (hother h hheld)

theorem foldl_wakeLane_only (ls : List LaneNo) (s : State) : PlacementOnly s (ls.foldl (fun t l => wakeLane l t) s) := by
  induction ls generalizing s with
  | nil => exact .refl s
  | cons l rest ih => exact .after (ih (wakeLane l s)) (wakeLane_only l s)

theorem wakePass_visits (hlive : s.resetLow = false) (ls : List LaneNo) :
    WakePass ls s (ls.foldl (fun t l => wakeLane l t) s) := by
  induction ls generalizing s with
  | nil => rfl
  | cons l rest ih => exact ⟨_, wakeLane_visited hlive l, ih ((wakeLane_only l s).resetLow.trans hlive)⟩

/-- The state once a frame is FREE and its pulse owed, before the wake pass (R156). -/
def freed (f : FrameNo) (s : State) : State := { modFrame f (fun _ => Frame.free) s with owed := s.owed + 1 }

theorem freeFrame_eq (f : FrameNo) (s : State) :
    freeFrame f s = (freed f s).waitList.foldl (fun t l => wakeLane l t) (freed f s) := rfl

/-- A freed frame owes a pulse and wakes the waiting lanes (R58, R59, R156). -/
theorem freeFrame_wakes (hlive : s.resetLow = false) (f : FrameNo) : WakePass s.waitList (freed f s) (freeFrame f s) :=
  wakePass_visits (s := freed f s) hlive s.waitList

theorem freeFrame_of_noneWait (hwait : s.waitList = []) (f : FrameNo) : freeFrame f s = freed f s := by
  have hlist : (freed f s).waitList = [] := hwait
  rw [freeFrame_eq, hlist]
  rfl

/-! ## The evaluation of a drain pass -/

/-- Settles O34: the pass verifies or not, and a verified frame is freed at once with AUTO_RELEASE on. -/
theorem passEvaluated : Obligations.PassEvaluated := by
  intro s f d il hlive hstate hdrain hlength verified ends
  have hexec := exec_drainEvaluation_live (f := f) hlive
  have hover : passIsOver s f = true ↔ d.cursor = il ∧ d.outstanding = 0 := by
    simp [passIsOver, hstate, hdrain, Frame.length, hlength]
  have hends : ∀ st, endPass f st s = ends st := fun st => by
    rw [endPass, clearMarks_eq]
    refine modFrame_congr (unmarking f s) f ?_
    have hframe : (unmarking f s).frame f = s.frame f := rfl
    rw [hframe, hdrain]
    rfl
  have hverifies : (s.frame f).verifies = true ↔ verified := by
    simp [Frame.verifies, hdrain, verified, and_assoc]
  refine ⟨fun hrunning => ?_, fun hcursor hout => ?_⟩
  · rw [hexec, tryEvaluate, if_neg (by rwa [hover])]
  · rw [tryEvaluate, if_pos (hover.2 ⟨hcursor, hout⟩)] at hexec
    refine ⟨fun hfails => ?_, fun hverified hoff => ?_, fun hverified hon => ?_, fun hverified hon hwait => ?_⟩
    · rw [hexec, evaluate, if_neg (by rwa [hverifies]), hends]
      rfl
    all_goals
      rw [evaluate, if_pos (hverifies.2 hverified), hends] at hexec
    · rw [hexec]
      simp only [autoRelease, hoff, bne_self_eq_false, Bool.false_eq_true, if_false]
      rfl
    all_goals
      have hauto : autoRelease s = true := by simpa [autoRelease] using hon
      simp only [hauto, if_true] at hexec
      have hframe : modFrame f (fun _ => Frame.free) (ends .drained) = modFrame f (fun _ => Frame.free) (unmarking f s) :=
        modFrame_modFrame (unmarking f s) f _ _
      have hfreed : ({ modFrame f (fun _ => Frame.free) (modRun (fun r => { r with drainedN := r.drainedN + 1 }) (ends .drained))
          with owed := s.owed + 1 } : State) = { modFrame f (fun _ => Frame.free) (unmarking f s) with
            run := { s.run with drainedN := s.run.drainedN + 1 }, owed := s.owed + 1 } :=
        congrArg (fun v : State => { v with run := { s.run with drainedN := s.run.drainedN + 1 }, owed := s.owed + 1 })
          hframe
    · refine ⟨_, hexec, ?_⟩
      have hwakes := freeFrame_wakes (s := modRun (fun r => { r with drainedN := r.drainedN + 1 }) (ends .drained)) hlive f
      rw [← hfreed]
      exact hwakes
    · rw [hexec, ← hfreed]
      exact congrArg _ (freeFrame_of_noneWait (s := modRun (fun r => { r with drainedN := r.drainedN + 1 }) (ends .drained))
        hwait f)

/-! ## RELEASE and DISCARD -/

/-- A frame action that finishes is answered with its own result, whatever packs it has opened (R188). -/
theorem takeAction_finished_running (h : TakesFrameAction s) {a : Action} (ha : a ∈ frameActions) (index : Byte)
    {g : State → State} {r : ActionResult} (hg : g s = finish a r u) (hrun : u.run.running = s.run.running) :
    takeAction a index g s = linkAnswering .ok a.code index (word r.code) (finished a r u) := by
  have hidle : u.run.running ≠ some a := hrun ▸ running_ne_frameAction h ha
  have hdata : actionData a (finished a r u) = word r.code := by simp [actionData, finished, hidle]
  rw [takeAction, if_pos (admits_frameAction h ha), hg, finish_eq, hdata, linkAnswer_eq]

/-- Freeing a frame leaves the running action. -/
theorem freeFrame_running (f : FrameNo) (s : State) : (freeFrame f s).run.running = s.run.running :=
  (foldl_wakeLane_only s.waitList (freed f s)).running

/-- The meaning of RELEASE, by the result of its part (R152). -/
theorem exec_release_finished (h : TakesFrameAction s) (index : Byte) {r : ActionResult}
    (hpart : framePart .release index (· == .drained) freeFrame s = finish .release r u)
    (hrun : u.run.running = s.run.running) :
    exec (.release index) s = .next (linkAnswering .ok 0x46 index (word r.code) (finished .release r u)) := by
  have ⟨hlive, _⟩ := h
  have hexec : exec (.release index) s = execRelease index s := rfl
  rw [hexec, execRelease, live_next s hlive, takeAction_finished_running h (by decide) index hpart hrun]
  rfl

/-- The meaning of DISCARD, by the result of its part (R154). -/
theorem exec_discard_finished (h : TakesFrameAction s) (index : Byte) {r : ActionResult}
    (hpart : framePart .discard index (fun st => st == .sealed || st == .drained || st == .held)
      (fun f s => freeFrame f (leaveSealQ f s)) s = finish .discard r u)
    (hrun : u.run.running = s.run.running) :
    exec (.discard index) s = .next (linkAnswering .ok 0x47 index (word r.code) (finished .discard r u)) := by
  have ⟨hlive, _⟩ := h
  have hexec : exec (.discard index) s = execDiscard index s := rfl
  rw [hexec, execDiscard, live_next s hlive, takeAction_finished_running h (by decide) index hpart hrun]
  rfl

theorem exec_release_drained (h : TakesFrameAction s) {index : Byte} (hindex : index.toNat = f.val)
    (hf : f.val < frameCount s) (hstate : (s.frame f).state = .drained) :
    exec (.release index) s = .next (linkAnswering .ok 0x46 index 1 (finished .release .done (freeFrame f s))) :=
  exec_release_finished h index (framePart_allowed hindex hf (by simp [hstate])) (freeFrame_running f s)

theorem exec_discard_kept (h : TakesFrameAction s) {index : Byte} (hindex : index.toNat = f.val)
    (hf : f.val < frameCount s)
    (hstate : (s.frame f).state = .sealed ∨ (s.frame f).state = .drained ∨ (s.frame f).state = .held) :
    exec (.discard index) s =
      .next (linkAnswering .ok 0x47 index 1 (finished .discard .done (freeFrame f (leaveSealQ f s)))) :=
  exec_discard_finished h index (framePart_allowed hindex hf (by rcases hstate with hs | hs | hs <;> simp [hs]))
    (freeFrame_running f (leaveSealQ f s))

/-- Settles O51: both actions free the frame, and the wake pass follows. -/
theorem framesFreed : Obligations.FramesFreed := by
  intro s i htakes
  have ⟨hlive, _⟩ := htakes
  refine ⟨fun f hindex hf => ⟨fun hstate => ⟨_, freeFrame_wakes hlive f, exec_release_drained htakes hindex hf hstate⟩,
      fun hstate => ⟨_, freeFrame_wakes (s := leaveSealQ f s) hlive f, exec_discard_kept htakes hindex hf hstate⟩⟩,
    fun f hindex hf hwait => ⟨fun hstate => ?_, fun hstate => ?_⟩, fun hnot => ?_, fun hnot => ?_, ?_⟩
  · rw [exec_release_drained htakes hindex hf hstate, freeFrame_of_noneWait hwait]
    rfl
  · rw [exec_discard_kept htakes hindex hf hstate, freeFrame_of_noneWait (s := leaveSealQ f s) hwait]
    rfl
  · exact exec_release_finished htakes i (framePart_wrongState (by simpa using hnot)) rfl
  · exact exec_discard_finished htakes i (framePart_wrongState (by simpa [and_assoc] using hnot)) rfl
  · have hexec : exec .freePulse s = .next (if 0 < s.owed then givePulse s else s) := live_next s hlive
    rw [hexec]
    split
    · next h => rw [if_neg (Nat.ne_of_gt h)]; rfl
    · next h => rw [if_pos (Nat.eq_zero_of_not_pos h)]


/-! ## What a visit leaves of another lane and of a frame in use -/

/-- Between `s` and `t` lane `l` and frame `f`, in use, have kept what they hold, `l` has not joined the wait list, and no answer
was taken back. -/
def Unharmed (l : LaneNo) (f : FrameNo) (s t : State) : Prop :=
  t.lane l = s.lane l ∧ (l ∉ s.waitList → l ∉ t.waitList) ∧ s.port.answers <+: t.port.answers ∧
    (t.frame f).state ≠ .free ∧ (t.frame f).serial = (s.frame f).serial ∧ (t.frame f).openTick = (s.frame f).openTick ∧
    (s.frame f).entries <+: (t.frame f).entries

theorem Unharmed.refl (hused : (s.frame f).state ≠ .free) : Unharmed l f s s :=
  ⟨rfl, id, List.prefix_rfl, hused, rfl, rfl, List.prefix_rfl⟩

theorem Unharmed.after (k : Unharmed l f t u) (h : Unharmed l f s t) : Unharmed l f s u := by
  obtain ⟨hlane, hwait, hanswers, -, hserial, htick, hentries⟩ := h
  obtain ⟨klane, kwait, kanswers, kstate, kserial, ktick, kentries⟩ := k
  exact ⟨klane.trans hlane, fun h => kwait (hwait h), hanswers.trans kanswers, kstate, kserial.trans hserial,
    ktick.trans htick, hentries.trans kentries⟩

section unharmed
variable {k : LaneNo} {a : Announce}

theorem unharmed_heldOn (hk : k ≠ l) (hused : (s.frame f).state ≠ .free) (a : Announce) (reason : WaitReason) (slot : Nat) :
    Unharmed l f s (heldOn k a reason slot s) := by
  have hport : (heldOn k a reason slot s).port = s.port := by cases reason <;> rfl
  have hframe : (heldOn k a reason slot s).frame f = s.frame f := by cases reason <;> rfl
  refine ⟨heldOn_lane_other (Ne.symm hk) a reason slot s, fun hwait => ?_, ?_⟩
  · cases reason with
    | noFrame =>
      have hlist : (heldOn k a .noFrame slot s).waitList = s.waitList.filter (· != k) ++ [k] := rfl
      rw [hlist]
      simp [hwait, Ne.symm hk]
    | jobLimit => exact hwait
    | voiding => exact hwait
  · rw [hport, hframe]
    exact ⟨List.prefix_rfl, hused, rfl, rfl, List.prefix_rfl⟩

theorem answeredPort_answers (s : State) (slot : Nat) : s.port.answers <+: (answeredPort s slot).answers := by
  rw [answeredPort, answerRecord]
  split
  · exact ⟨_, rfl⟩
  · exact List.prefix_rfl

/-- A file placed in the frame itself comes behind its entries; another frame's does not touch it. -/
theorem unharmed_placed (hk : k ≠ l) (hused : (s.frame f).state ≠ .free) {g : FrameNo} {ln : Lane} {fr : Frame} {jobs : List Job}
    {p : Port} (hanswers : s.port.answers <+: p.answers)
    (hframe : g = f → fr.state ≠ .free ∧ fr.serial = (s.frame f).serial ∧ fr.openTick = (s.frame f).openTick ∧
      (s.frame f).entries <+: fr.entries) : Unharmed l f s (placed s k g ln fr jobs p) := by
  refine ⟨placed_lane_other (Ne.symm hk), fun hwait hmem => hwait (List.mem_filter.1 hmem).1, hanswers, ?_⟩
  by_cases hg : g = f
  · subst hg
    rw [placed_frame_same]
    exact hframe rfl
  · rw [placed_frame_other (Ne.symm hg)]
    exact ⟨hused, rfl, rfl, List.prefix_rfl⟩

theorem unharmed_placeFile (hk : k ≠ l) (hused : (s.frame f).state ≠ .free) {g : FrameNo} (hopen : (s.frame g).state = .opened)
    (a : Announce) (slot : Nat) : Unharmed l f s (placeFile k a slot g s) := by
  by_cases hlen : a.len = 0
  · rw [placeFile_empty_eq hopen hlen]
    refine unharmed_placed hk hused (answeredPort_answers s slot) ?_
    rintro rfl
    obtain ⟨hentries, -, -, hserial, htick⟩ := emptyDueFrame_fixed s a.sealAfter
      ((s.frame g).withFile (emptyEntry k a (s.frame g).cursor s.tick))
    refine ⟨?_, hserial, htick, ⟨_, hentries.symm⟩⟩
    rcases emptyDueFrame_cases s a.sealAfter ((s.frame g).withFile (emptyEntry k a (s.frame g).cursor s.tick)) with
      h | ⟨cause, h⟩
    · rw [h]
      exact hused
    · rw [h]
      exact nofun
  · rw [placeFile_eq hopen hlen]
    refine unharmed_placed hk hused (answeredPort_answers s slot) ?_
    rintro rfl
    obtain ⟨hentries, -, -, hserial, htick⟩ := dueFrame_fixed s
      ((s.frame g).withFile (a.entry k (s.frame g).cursor s.tick))
    refine ⟨?_, hserial, htick, ⟨_, hentries.symm⟩⟩
    rcases dueFrame_cases s ((s.frame g).withFile (a.entry k (s.frame g).cursor s.tick)) with h | ⟨cause, h⟩
    · rw [h]
      exact hused
    · rw [h]
      exact nofun

theorem unharmed_placeInNew (hk : k ≠ l) (hused : (s.frame f).state ≠ .free) (a : Announce) (slot : Nat) :
    Unharmed l f s (placeInNew k a slot s) := by
  rw [placeInNew]
  split
  · next g hlowest =>
    have hg : f ≠ g := fun h => hused (h ▸ lowestFree_free hlowest)
    have hopened : Unharmed l f s (openFrame g a.cls s) := by
      refine ⟨rfl, id, List.prefix_rfl, ?_⟩
      rw [openFrame_frame_other s hg]
      exact ⟨hused, rfl, rfl, List.prefix_rfl⟩
    exact .after (unharmed_placeFile hk hopened.2.2.2.1 (openFrame_state s g a.cls) a slot) hopened
  · rw [holdPlaced_eq]
    exact unharmed_heldOn hk hused a .noFrame slot

theorem unharmed_enterSealing (hused : (s.frame f).state ≠ .free) (g : FrameNo) (cause : SealCause) :
    Unharmed l f s (enterSealing g cause s) := by
  have hframe : ((enterSealing g cause s).frame f).state ≠ .free ∧
      ((enterSealing g cause s).frame f).serial = (s.frame f).serial ∧
      ((enterSealing g cause s).frame f).openTick = (s.frame f).openTick ∧
      (s.frame f).entries <+: ((enterSealing g cause s).frame f).entries := by
    by_cases hg : f = g
    · subst hg
      obtain ⟨il, stage, h⟩ := enterSealing_frame_same s f cause
      rw [h]
      exact ⟨nofun, rfl, rfl, List.prefix_rfl⟩
    · rw [enterSealing_frame_other hg]
      exact ⟨hused, rfl, rfl, List.prefix_rfl⟩
  refine ⟨by simp, by simp, ?_, hframe⟩
  obtain ⟨frames, classTable, fill, h⟩ := enterSealing_fixed s g cause
  rw [h]

theorem unharmed_requestPlacement (hk : k ≠ l) (hused : (s.frame f).state ≠ .free) (a : Announce) (slot : Nat) :
    Unharmed l f s (requestPlacement k a slot s) := by
  rw [requestPlacement]
  split
  · rw [holdPlaced_eq]
    exact unharmed_heldOn hk hused a .jobLimit slot
  · split
    · next g hopen =>
      split
      · exact unharmed_placeFile hk hused (openFrameOf_opened hopen).2 a slot
      · have hsealed : Unharmed l f s (enterSealing g .misfit s) := unharmed_enterSealing hused g .misfit
        exact .after (unharmed_placeInNew hk hsealed.2.2.2.1 a slot) hsealed
    · exact unharmed_placeInNew hk hused a slot

theorem unharmed_leaveWaitList (hused : (s.frame f).state ≠ .free) : Unharmed l f s (leaveWaitList k s) :=
  ⟨rfl, fun hwait => by simp [hwait], List.prefix_rfl, hused, rfl, rfl, List.prefix_rfl⟩

theorem unharmed_wakeLane (hk : k ≠ l) (hused : (s.frame f).state ≠ .free) : Unharmed l f s (wakeLane k s) := by
  rw [wakeLane]
  split
  · next h _ =>
    split
    · exact .after (unharmed_requestPlacement (s := leaveWaitList k s) hk hused h.ann h.slot) (unharmed_leaveWaitList hused)
    · exact .refl hused
  · exact .refl hused

theorem unharmed_wakePass {ls : List LaneNo} (hl : l ∉ ls) (hused : (s.frame f).state ≠ .free) :
    Unharmed l f s (ls.foldl (fun t k => wakeLane k t) s) := by
  induction ls generalizing s with
  | nil => exact .refl hused
  | cons k rest ih =>
    have hk : k ≠ l := fun h => hl (h ▸ List.mem_cons_self)
    have hrest : l ∉ rest := fun h => hl (List.mem_cons_of_mem _ h)
    have hvisit : Unharmed l f s (wakeLane k s) := unharmed_wakeLane hk hused
    exact .after (ih hrest hvisit.2.2.2.1) hvisit

end unharmed

/-! ## A freed frame that wakes a lane -/

/-- Taking a lane off the wait list twice is taking it off once. -/
theorem PlacedIn.of_waitList {a : Announce}
    (h : PlacedIn { s with waitList := s.waitList.filter (· != l) } t l a f) : PlacedIn s t l a f := by
  obtain ⟨hentries, hcursor, hqueue, hwait, hrest⟩ := h
  exact ⟨hentries, hcursor, hqueue, hwait.trans (by simp), hrest⟩

/-- What an opened frame holds, and its lane, in either case of the file's length (R28, R50, R51). -/
theorem OpenedIn.holds {a : Announce} (h : OpenedIn s t l a f) :
    (t.frame f).state ≠ .free ∧ (t.frame f).serial = s.nextSerial ∧ (t.frame f).openTick = s.tick ∧ l ∉ t.waitList ∧
      (a.len ≠ 0 → (t.frame f).entries = [a.entry l 4096 s.tick] ∧ t.lane l = receivingLane f 0 s.tick (s.lane l)) ∧
      (a.len = 0 → (t.frame f).entries = [emptyEntry l a 4096 s.tick] ∧
        t.lane l = afterEmpty a 0 4096 s.nextSerial (s.lane l)) := by
  obtain ⟨hfile, hempty, -, -, -, hwait, -⟩ := h
  have hleft : l ∉ t.waitList := by simp [hwait]
  by_cases hlen : a.len = 0
  · obtain ⟨hframe, hlane, -⟩ := hempty hlen
    rw [hframe]
    refine ⟨?_, ?_⟩
    · rcases emptyDueFrame_cases s a.sealAfter _ with h | ⟨cause, h⟩ <;> rw [h] <;> exact nofun
    · obtain ⟨hentries, -, -, hserial, htick⟩ := emptyDueFrame_fixed s a.sealAfter _
      exact ⟨hserial, htick, hleft, fun h => absurd hlen h, fun _ => ⟨hentries, hlane⟩⟩
  · obtain ⟨hframe, hlane, -⟩ := hfile hlen
    rw [hframe]
    refine ⟨?_, ?_⟩
    · rcases dueFrame_cases s _ with h | ⟨cause, h⟩ <;> rw [h] <;> exact nofun
    · obtain ⟨hentries, -, -, hserial, htick⟩ := dueFrame_fixed s _
      exact ⟨hserial, htick, hleft, fun _ => ⟨hentries, hlane⟩, fun h => absurd h hlen⟩

/-- Settles O52: the freed frame is the lowest FREE one, and the visits that follow leave it and its lane. -/
theorem freedFrameWakesALane : Obligations.FreedFrameWakesALane := by
  refine ⟨fun s l h hheld hreason => ⟨fun hnone hunfit => ?passed, fun f r htable hopen hcls hfits hjobs hlen hfind => ?placed⟩,
    fun s i f l rest h r htakes hindex hf hstate hlow hwait hrest hheld hreason hjobs htable hfind => ?woken⟩
  case passed =>
    refine wakeLane_passed fun h' hheld' _ hserved => ?_
    rw [hheld] at hheld'
    cases hheld'
    rcases hserved with ⟨g, hcount, hfree, -⟩ | ⟨f, htable, hopen, hfits⟩
    · exact hnone g hcount hfree
    · exact hunfit f htable hopen hfits
  case placed =>
    have htest : (leaveWaitList l s).laneJobs l + (if h.ann.len = 0 then 2 else 1) ≤ 2 := by
      rw [if_neg hlen]
      exact Nat.add_le_add_right hjobs 1
    rw [wakeLane_served hheld hreason (.inr ⟨f, htable, hopen, hfits⟩), requestPlacement_fits (s := leaveWaitList l s) htest htable hopen hfits]
    exact ⟨(placeFile_placedIn (s := leaveWaitList l s) hopen hlen).of_waitList,
      placeFile_answered (s := leaveWaitList l s) hopen hfind⟩
  case woken =>
    have hlowest : LowestFree (freed f s) f := by
      refine ⟨hf, congrArg Frame.state (frame_modFrame_same s f fun _ => Frame.free), fun k hk => ?_⟩
      have hframe : (freed f s).frame k = s.frame k :=
        frame_modFrame_other s (fun heq => by simp [heq] at hk) fun _ => Frame.free
      rw [hframe]
      exact hlow k hk
    have hvisit : wakeLane l (freed f s) = placeInNew l h.ann h.slot (leaveWaitList l (freed f s)) := by
      rw [wakeLane_served (s := freed f s) hheld hreason (.inl ⟨f, hlowest⟩)]
      exact requestPlacement_noTable (s := leaveWaitList l (freed f s)) hjobs htable
    obtain ⟨hopens, -⟩ := placeInNew_opens (s := leaveWaitList l (freed f s)) (l := l) (a := h.ann) (fun _ => Iff.rfl) rfl rfl
      hfind
    obtain ⟨hopened, hanswered⟩ := hopens f hlowest
    rw [← hvisit] at hopened hanswered
    obtain ⟨hused, hserial, htick, hleft, hfile, hempty⟩ := hopened.holds
    obtain ⟨klane, kwait, kanswers, -, kserial, ktick, kentries⟩ := unharmed_wakePass hrest hused
    have hpass : freeFrame f s = rest.foldl (fun t k => wakeLane k t) (wakeLane l (freed f s)) := by
      have hlist : (freed f s).waitList = l :: rest := hwait
      rw [freeFrame_eq, hlist]
      rfl
    have hhead : ∀ en, ((wakeLane l (freed f s)).frame f).entries = [en] →
        ((rest.foldl (fun t k => wakeLane k t) (wakeLane l (freed f s))).frame f).entries.head? = some en := fun en hen => by
      obtain ⟨later, hlater⟩ := kentries
      rw [← hlater, hen]
      rfl
    refine ⟨_, exec_release_drained htakes hindex hf hstate, ?_⟩
    rw [hpass]
    refine ⟨?_, kserial.trans hserial, ktick.trans htick, kwait hleft, fun hlen => ?_, fun hlen => ?_, ?_⟩
    · exact (foldl_wakeLane_only rest (wakeLane l (freed f s))).owed.trans (wakeLane_only l (freed f s)).owed
    · obtain ⟨hentries, hlane⟩ := hfile hlen
      have hlane' := klane.trans hlane
      exact ⟨hhead _ hentries, congrArg Lane.state hlane', congrArg Lane.file hlane', congrArg Lane.held hlane'⟩
    · obtain ⟨hentries, hlane⟩ := hempty hlen
      exact ⟨hhead _ hentries, klane.trans hlane⟩
    · refine kanswers.subset ?_
      rw [hanswered]
      exact List.mem_append_right _ (List.mem_singleton.2 rfl)

end Sys2Proof.Machine
end

section
/-! PROOFS. The core reset: the settled statement ResetCore (R16, R179, R180). -/

namespace Sys2Proof.Machine

open Sys2Proof.Config

variable {s t u : State} {st : Stream}

/-! ## The open requests at a core reset (R16) -/

/-- The open requests that a core reset keeps: those the buffer has yet to answer, marked as taken before it (R16). -/
def keptRecords (rs : List OpenReq) : List OpenReq :=
  (rs.filter fun r => r.stage == .forwarded).map fun r => { r with preReset := true }

/-- The state with the records of a stream, the answers given and the count of free values replaced. -/
def withRecords (st : Stream) (rs : List OpenReq) (answers : List FabricAnswer) (free : Nat) (s : State) : State :=
  setRecords st rs { s with port := { s.port with answers := answers }, free := free }

theorem withRecords_records (rs : List OpenReq) (answers : List FabricAnswer) (free : Nat) :
    (withRecords st rs answers free s).records st = rs := by
  cases st <;> rfl

theorem withRecords_answers (rs : List OpenReq) (answers : List FabricAnswer) (free : Nat) :
    (withRecords st rs answers free s).port.answers = answers := by
  cases st <;> rfl

theorem withRecords_withRecords (rs rs' : List OpenReq) (answers answers' : List FabricAnswer) (free free' : Nat) :
    withRecords st rs answers free (withRecords st rs' answers' free' s) = withRecords st rs answers free s := by
  cases st <;> rfl

section step
variable {before rest : List OpenReq} {r : OpenReq}

/-- The record of a number that no other record carries is found under it. -/
theorem findRecord_of_unique (hrecords : s.records st = before ++ r :: rest)
    (hunique : ∀ x ∈ before ++ rest, x.slot ≠ r.slot) : s.findRecord st r.slot = some r := by
  have hbefore : before.find? (fun x => x.slot == r.slot) = none :=
    List.find?_eq_none.2 fun x hx => by simpa using hunique x (List.mem_append_left _ hx)
  rw [State.findRecord, hrecords, List.find?_append, hbefore]
  simp

theorem answerRecord_of_unique (hrecords : s.records st = before ++ r :: rest)
    (hunique : ∀ x ∈ before ++ rest, x.slot ≠ r.slot) (code : RespCode) (data : List Byte) :
    answerRecord st r.slot code data s = withRecords st (before ++ rest)
      (s.port.answers ++ [{ stream := st, tag := r.tag, code := code, data := data }]) s.free s := by
  have hkept : ∀ xs : List OpenReq, (∀ x ∈ xs, x.slot ≠ r.slot) → xs.filter (fun x => x.slot != r.slot) = xs := fun xs hxs =>
    List.filter_eq_self.2 fun x hx => by simpa using hxs x hx
  have hfilter : (before ++ r :: rest).filter (fun x => x.slot != r.slot) = before ++ rest := by
    rw [List.filter_append, List.filter_cons_of_neg (by simp), hkept before fun x hx => hunique x (List.mem_append_left _ hx),
      hkept rest fun x hx => hunique x (List.mem_append_right _ hx)]
  have hgiven : (giveAnswer st r.tag code data s).records st = before ++ r :: rest := by
    rw [← hrecords]
    cases st <;> rfl
  rw [answerRecord_found _ (findRecord_of_unique hrecords hunique), dropRecord, hgiven, hfilter]
  cases st <;> rfl

theorem modRecord_of_unique (hrecords : s.records st = before ++ r :: rest)
    (hunique : ∀ x ∈ before ++ rest, x.slot ≠ r.slot) (g : OpenReq → OpenReq) :
    modRecord st r.slot g s = withRecords st (before ++ g r :: rest) s.port.answers s.free s := by
  have hkept : ∀ xs : List OpenReq, (∀ x ∈ xs, x.slot ≠ r.slot) → xs.map (fun x => if x.slot == r.slot then g x else x) = xs :=
    fun xs hxs => (List.map_congr_left fun x hx => if_neg (by simpa using hxs x hx)).trans (List.map_id xs)
  have hmap : (before ++ r :: rest).map (fun x => if x.slot == r.slot then g x else x) = before ++ g r :: rest := by
    rw [List.map_append, List.map_cons, hkept before fun x hx => hunique x (List.mem_append_left _ hx),
      hkept rest fun x hx => hunique x (List.mem_append_right _ hx)]
    simp
  rw [modRecord, hrecords, hmap]
  cases st <;> rfl

/-- What a core reset does with one open request (R16). -/
theorem resetRecord_of_unique (hrecords : s.records st = before ++ r :: rest)
    (hunique : ∀ x ∈ before ++ rest, x.slot ≠ r.slot) :
    ∃ given free, resetRecord st r s = withRecords st (before ++ keptRecords [r] ++ rest) (s.port.answers ++ given) free s ∧
      (st = .write → r.stage = .held →
        ({ stream := .write, tag := r.tag, code := .refused, data := [] } : FabricAnswer) ∈ given) ∧
      (st = .write → r.stage = .pendingOwner .okay [] →
        ({ stream := .write, tag := r.tag, code := .okay, data := [] } : FabricAnswer) ∈ given) := by
  cases hstage : r.stage with
  | held =>
    have hkept : keptRecords [r] = [] := by simp [keptRecords, hstage]
    simp only [resetRecord, hstage, hkept, List.append_nil]
    refine ⟨_, _, answerRecord_of_unique hrecords hunique _ _, ?_, nofun⟩
    rintro rfl -
    exact List.mem_singleton.2 rfl
  | forwarded =>
    have hkept : keptRecords [r] = [{ r with preReset := true }] := by simp [keptRecords, hstage]
    have hstep : resetRecord st r s = modRecord st r.slot (fun x => { x with preReset := true }) s := by
      simp only [resetRecord, hstage]
    rw [hstep, hkept, List.append_assoc]
    exact ⟨[], _, by rw [List.append_nil]; exact modRecord_of_unique hrecords hunique _, nofun, nofun⟩
  | pendingOwner code data =>
    have hkept : keptRecords [r] = [] := by simp [keptRecords, hstage]
    simp only [resetRecord, hstage, hkept, List.append_nil]
    refine ⟨_, _, answerRecord_of_unique (s := { s with free := s.free + missingBytes st r data }) hrecords hunique _ _,
      nofun, ?_⟩
    rintro rfl h
    cases h
    exact List.mem_singleton.2 rfl
  | answerable code data =>
    have hkept : keptRecords [r] = [] := by simp [keptRecords, hstage]
    simp only [resetRecord, hstage, hkept, List.append_nil]
    exact ⟨_, _, answerRecord_of_unique hrecords hunique _ _, nofun, nofun⟩

end step

theorem keptRecords_cons (r : OpenReq) (rs : List OpenReq) : keptRecords (r :: rs) = keptRecords [r] ++ keptRecords rs := by
  rw [keptRecords, keptRecords, keptRecords, ← List.map_append, ← List.filter_append]
  rfl

/-- The slots of kept records are among those of the records. -/
theorem keptRecords_slots (rs : List OpenReq) : ((keptRecords rs).map (·.slot)).Sublist (rs.map (·.slot)) := by
  rw [keptRecords, List.map_map]
  exact (List.filter_sublist (l := rs)).map _

/-- What a core reset does with the open requests of a stream, one after the other (R16). -/
theorem resetRecords_of_nodup (rs : List OpenReq) {before : List OpenReq} (hrecords : s.records st = before ++ rs)
    (hnodup : ((before ++ rs).map (·.slot)).Nodup) :
    ∃ given free, rs.foldl (fun t r => resetRecord st r t) s =
        withRecords st (before ++ keptRecords rs) (s.port.answers ++ given) free s ∧
      (st = .write → ∀ r ∈ rs, r.stage = .held →
        ({ stream := .write, tag := r.tag, code := .refused, data := [] } : FabricAnswer) ∈ given) ∧
      (st = .write → ∀ r ∈ rs, r.stage = .pendingOwner .okay [] →
        ({ stream := .write, tag := r.tag, code := .okay, data := [] } : FabricAnswer) ∈ given) := by
  induction rs generalizing s before with
  | nil =>
    refine ⟨[], s.free, ?_, fun _ _ h => (List.not_mem_nil h).elim, fun _ _ h => (List.not_mem_nil h).elim⟩
    have hkept : keptRecords [] = [] := rfl
    rw [hkept, List.append_nil, ← hrecords.trans (List.append_nil _)]
    cases st <;> simp [withRecords, setRecords, modPort, State.records]
  | cons r rest ih =>
    have hmiddle : (r.slot :: (before ++ rest).map (·.slot)).Nodup := by
      rw [List.map_append] at hnodup ⊢
      exact List.nodup_middle.1 hnodup
    have hunique : ∀ x ∈ before ++ rest, x.slot ≠ r.slot := fun x hx h =>
      (List.nodup_cons.1 hmiddle).1 (h ▸ List.mem_map_of_mem hx)
    obtain ⟨given, free, hstep, hheld, hpending⟩ := resetRecord_of_unique hrecords hunique
    have hnodup' : (((before ++ keptRecords [r]) ++ rest).map (·.slot)).Nodup := by
      have hsub : (((before ++ keptRecords [r]) ++ rest).map (·.slot)).Sublist ((before ++ r :: rest).map (·.slot)) := by
        rw [List.append_assoc, List.map_append, List.map_append, List.map_append]
        exact (List.Sublist.refl _).append ((keptRecords_slots [r]).append (List.Sublist.refl _))
      exact hnodup.sublist hsub
    obtain ⟨given', free', hrest, hheld', hpending'⟩ := ih (s := resetRecord st r s)
      (by rw [hstep, withRecords_records]) hnodup'
    refine ⟨given ++ given', free', ?_, fun hst x hx hstage => ?_, fun hst x hx hstage => ?_⟩
    · rw [List.foldl_cons, hrest, hstep, withRecords_answers, withRecords_withRecords, keptRecords_cons r rest]
      simp only [List.append_assoc]
    · rcases List.mem_cons.1 hx with rfl | hx
      · exact List.mem_append_left _ (hheld hst hstage)
      · exact List.mem_append_right _ (hheld' hst x hx hstage)
    · rcases List.mem_cons.1 hx with rfl | hx
      · exact List.mem_append_left _ (hpending hst hstage)
      · exact List.mem_append_right _ (hpending' hst x hx hstage)

/-- The ports at a core reset (R16). -/
theorem resetPorts_eq (hnumbers : NumbersOk s) :
    ∃ given free, resetPorts s = { s with
        port := { s.port with
          writes := keptRecords s.port.writes, reads := keptRecords s.port.reads
          answers := s.port.answers ++ given, outstanding := s.port.outstanding.map Outstanding.orphan, lastGrant := .fill }
        free := free } ∧
      (∀ r ∈ s.port.writes, r.stage = .held →
        ({ stream := .write, tag := r.tag, code := .refused, data := [] } : FabricAnswer) ∈ given) ∧
      (∀ r ∈ s.port.writes, r.stage = .pendingOwner .okay [] →
        ({ stream := .write, tag := r.tag, code := .okay, data := [] } : FabricAnswer) ∈ given) := by
  obtain ⟨hwrites, hreads, -⟩ := hnumbers
  obtain ⟨given, free, hwritten, hheld, hpending⟩ :=
    resetRecords_of_nodup (s := s) (st := .write) s.port.writes (before := []) rfl hwrites
  have hwritten' : resetRecords .write s = _ := hwritten
  obtain ⟨given', free', hread, -, -⟩ := resetRecords_of_nodup (s := resetRecords .write s) (st := .read) s.port.reads
    (before := []) (by rw [hwritten']; rfl) hreads
  have hlist : (resetRecords .write s).records .read = s.port.reads := by rw [hwritten']; rfl
  have hread' : resetRecords .read (resetRecords .write s) =
      s.port.reads.foldl (fun t r => resetRecord .read r t) (resetRecords .write s) := by
    rw [resetRecords, hlist]
  refine ⟨given ++ given', free', ?_, fun r hr hstage => List.mem_append_left _ (hheld rfl r hr hstage),
    fun r hr hstage => List.mem_append_left _ (hpending rfl r hr hstage)⟩
  rw [resetPorts, hread', hread, hwritten']
  simp only [withRecords, setRecords, modPort, List.nil_append, List.append_assoc]

/-- After a core reset nothing waits for it exactly when no request was kept and no burst orphaned (R180). -/
theorem kept_clear_iff (rs : List OpenReq) : (∀ r ∈ keptRecords rs, r.preReset = false) ↔ keptRecords rs = [] := by
  constructor
  · intro h
    refine List.eq_nil_iff_forall_not_mem.2 fun r hr => ?_
    obtain ⟨x, -, rfl⟩ := List.mem_map.1 hr
    cases h _ hr
  · intro h r hr
    rw [h] at hr
    cases hr

/-- Settles O49: the ports are reset record by record, the blocks at once, and then the core may be clear. -/
theorem resetCore : Obligations.ResetCore := by
  intro s i htakes hnumbers keeps
  have ⟨hlive, _⟩ := htakes
  obtain ⟨given, free, hports, hheld, hpending⟩ := resetPorts_eq hnumbers
  have hadmits : admits s.run.running .resetCore = true := by
    obtain ⟨-, hrun | hrun | hrun⟩ := htakes <;> rw [hrun] <;> rfl
  have hexec : exec (.resetCore i) s = .next (linkAnswering .ok 0x44 i (actionData .resetCore (resetCorePart s))
      (resetCorePart s)) := by
    have hlive' : exec (.resetCore i) s = .next (takeAction .resetCore i resetCorePart s) := live_next s hlive
    rw [hlive', takeAction, if_pos hadmits, linkAnswer_eq]
    rfl
  have hclear : coreIsClear (resetBlocks (resetPorts s)) = true ↔ keeps s.port.writes = [] ∧ keeps s.port.reads = [] ∧
      ∀ o ∈ s.port.outstanding.map Outstanding.orphan, o.origin ≠ .dropped := by
    rw [coreIsClear_iff, hports]
    simp only [resetBlocks, true_and, List.mem_append, or_imp, forall_and, kept_clear_iff, and_assoc]
    rfl
  have houtstanding : s.port.outstanding.map Outstanding.orphan = s.port.outstanding.map (fun o =>
      match o.origin with
      | .burst _ _ _ => { o with origin := .dropped }
      | _ => o) := List.map_congr_left fun o _ => by
    obtain ⟨btag, origin, req⟩ := o
    cases origin <;> rfl
  have hpart : ∃ running last, resetCorePart s = { resetBlocks (resetPorts s) with
      run := { (resetBlocks (resetPorts s)).run with running := running, last := last } } ∧
      (running = none ∧ last = some (.done, .resetCore) ∧ coreIsClear (resetBlocks (resetPorts s)) = true ∨
        running = some .resetCore ∧ last = s.run.last ∧ coreIsClear (resetBlocks (resetPorts s)) = false) := by
    cases hover : coreIsClear (resetBlocks (resetPorts s)) with
    | true =>
      refine ⟨none, some (.done, .resetCore), ?_, .inl ⟨rfl, rfl, rfl⟩⟩
      rw [resetCorePart, tryClear, if_pos hover]
      rfl
    | false =>
      refine ⟨some .resetCore, s.run.last, ?_, .inr ⟨rfl, rfl, rfl⟩⟩
      rw [resetCorePart, tryClear, if_neg (by simp [hover]), hports]
      rfl
  obtain ⟨running, last, hpart, hends⟩ := hpart
  have hcleared := cleared_resetBlocks (resetPorts s)
  rw [hports] at hpart hcleared
  refine ⟨_, hexec, ?_⟩
  rw [hpart]
  refine ⟨hcleared.lane, hcleared.frame, hcleared.classFrame, rfl, rfl, rfl, rfl, rfl, rfl, rfl, rfl, rfl, rfl, rfl, rfl, rfl,
    rfl, rfl, rfl, rfl, rfl, rfl, rfl, rfl, rfl, ?_, houtstanding,
    fun r hr hstage => List.mem_append_right _ (hheld r hr hstage),
    fun r hr hstage => List.mem_append_right _ (hpending r hr hstage), ?_⟩
  · have hempty : ∀ v : State, v.sealQ = [] → sealRdy v = false := fun v hv => by simp [sealRdy, hv]
    exact hempty _ rfl
  · rcases hends with ⟨rfl, rfl, hover⟩ | ⟨rfl, rfl, hover⟩
    · split
      · exact ⟨rfl, rfl, rfl⟩
      · next hnot => exact absurd (hclear.1 hover) hnot
    · split
      · next hyes => simp [hclear.2 hyes] at hover
      · exact ⟨rfl, rfl, rfl⟩

end Sys2Proof.Machine
end

section
/-! PROOFS. What a stop does to the frames and to the lanes that hold an announce: `beginStop` meets StopBegun (R175). -/

namespace Sys2Proof.Machine

open Sys2Proof.Config

variable {s t u : State} {l : LaneNo} {f : FrameNo}

/-! ## Loops over all lanes and over all frames, round by round -/

/-- A loop over a list, with an invariant of the rounds done. -/
theorem foldl_rounds {α : Type} {g : α → State → State} {P : List α → State → Prop} (ns : List α) (done : List α)
    (hnodup : (done ++ ns).Nodup) (hs : P done s) (hstep : ∀ done n t, n ∉ done → P done t → P (done ++ [n]) (g n t)) :
    P (done ++ ns) (ns.foldl (fun t n => g n t) s) := by
  induction ns generalizing s done with
  | nil => rwa [List.append_nil]
  | cons n rest ih =>
    have hnot : n ∉ done := fun h => (List.nodup_append.1 hnodup).2.2 n h n List.mem_cons_self rfl
    have happend : done ++ n :: rest = (done ++ [n]) ++ rest := by simp
    rw [happend] at hnodup ⊢
    exact ih (done ++ [n]) hnodup (hstep done n s hnot hs)

theorem laneNos_pairwise : laneNos.Pairwise (· < ·) := by decide

theorem frameNos_pairwise : frameNos.Pairwise (· < ·) := by decide

/-- The loop over the lanes, with an invariant of the rounds done. -/
theorem forLanes_rounds {g : LaneNo → State → State} {P : List LaneNo → State → Prop} (hs : P [] s)
    (hstep : ∀ done l t, l ∉ done → P done t → P (done ++ [l]) (g l t)) : P laneNos (forLanes g s) :=
  foldl_rounds laneNos [] laneNos_nodup hs hstep

/-- The loop over the frames, with an invariant of the rounds done. -/
theorem forFrames_rounds {g : FrameNo → State → State} {P : List FrameNo → State → Prop} (hs : P [] s)
    (hstep : ∀ done f t, f ∉ done → P done t → P (done ++ [f]) (g f t)) : P frameNos (forFrames g s) :=
  foldl_rounds frameNos [] frameNos_nodup hs hstep

/-! ## The OPEN frames (R55) -/

/-- Frame `f` is OPEN and ready as soon as it seals (R125). -/
def sealsReady (s : State) (f : FrameNo) : Bool :=
  (s.frame f).state == .opened && !(s.frame f).entries.any Entry.pending && s.frameJobs f == 0

theorem sealsReady_iff : sealsReady s f = true ↔ (s.frame f).state = .opened ∧ readyAtOnce s f := by
  have hpending : (s.frame f).entries.any Entry.pending = false ↔
      ∀ en ∈ (s.frame f).entries, en.state ≠ .placed ∧ en.state ≠ .voiding := by
    simp only [List.any_eq_false, Entry.pending, Bool.or_eq_true, beq_iff_eq, not_or]
  rw [sealsReady, readyAtOnce, ← hpending, ← frameJobs_eq_zero_iff]
  simp [and_assoc]

/-- An OPEN frame as a stop leaves it (R54, R125, R175). -/
def stoppedFrame (s : State) (cause : SealCause) (f : FrameNo) : Frame :=
  if sealsReady s f then
    { (s.frame f).sealedBy cause s.tick with stage := .writing, imageLength := some (s.frame f).finalLength }
  else if (s.frame f).state = .opened then (s.frame f).sealedBy cause s.tick
  else s.frame f

/-- The frames in `done` have been sealed by a stop, between `s` and `t`. -/
structure FramesSealed (cause : SealCause) (s : State) (done : List FrameNo) (t : State) : Prop where
  sealed : ∀ f ∈ done, t.frame f = stoppedFrame s cause f
  others : ∀ f, f ∉ done → t.frame f = s.frame f
  table : ∀ c, t.classFrame c =
    if ∃ f ∈ done, (s.frame f).state = .opened ∧ (s.frame f).cls = some c then none else s.classFrame c
  queue : t.fill.queue = s.fill.queue ++ (done.filter (sealsReady s)).map fun f => directoryJob f (s.frame f)
  rest : ∃ frames classTable fill, t = { s with frames := frames, classTable := classTable, fill := fill }

theorem FramesSealed.tick {cause : SealCause} {done : List FrameNo} (h : FramesSealed cause s done t) : t.tick = s.tick := by
  obtain ⟨_, _, _, rfl⟩ := h.rest
  rfl

/-- The directory jobs of other frames do not keep a frame from being ready. -/
theorem FramesSealed.frameJobs {cause : SealCause} {done : List FrameNo} (h : FramesSealed cause s done t) (hf : f ∉ done) :
    t.frameJobs f = s.frameJobs f := by
  have hnone : ((done.filter (sealsReady s)).map fun f => directoryJob f (s.frame f)).countP (fun j => j.frame == f) = 0 := by
    rw [List.countP_eq_zero]
    intro j hj
    obtain ⟨g, hg, rfl⟩ := List.mem_map.1 hj
    have hne : g ≠ f := fun heq => hf (heq ▸ List.mem_of_mem_filter hg)
    simpa [directoryJob] using hne
  rw [State.frameJobs, h.queue, List.countP_append, hnone]
  rfl

theorem markSealing_frame_same (s : State) (f : FrameNo) (cause : SealCause) :
    (markSealing f cause s).frame f = (s.frame f).sealedBy cause s.tick := by
  unfold markSealing
  split <;> exact frame_modFrame_same s f (Frame.sealedBy cause s.tick)

theorem markSealing_classFrame (s : State) (f : FrameNo) (cause : SealCause) (c : ClassNo) :
    (markSealing f cause s).classFrame c = if (s.frame f).cls = some c then none else s.classFrame c := by
  unfold markSealing
  split
  · next d hd =>
    rw [hd, classFrame_setClassFrame]
    simp only [Option.some.injEq, eq_comm]
    rfl
  · next hd =>
    rw [hd]
    rfl

/-- One more OPEN frame seals (R54, R175). -/
theorem FramesSealed.round_opened {cause : SealCause} {done : List FrameNo} (h : FramesSealed cause s done t) (hf : f ∉ done)
    (hopen : (s.frame f).state = .opened) : FramesSealed cause s (done ++ [f]) (enterSealing f cause t) := by
  have hframe : (markSealing f cause t).frame f = (s.frame f).sealedBy cause s.tick := by
    rw [markSealing_frame_same, h.others f hf, h.tick]
  have hready : sealIsReady (markSealing f cause t) f = sealsReady s f := by
    have hjobs : (markSealing f cause t).frameJobs f = s.frameJobs f := by
      rw [← h.frameJobs hf, State.frameJobs, markSealing_fill]
      rfl
    rw [sealIsReady, sealsReady, hframe, hjobs, hopen]
    rfl
  refine ⟨fun g hg => ?sealed, fun g hg => ?others, fun c => ?table, ?queue, ?rest⟩
  case sealed =>
    by_cases hgf : g = f
    · subst hgf
      rw [enterSealing, examine, hready, stoppedFrame]
      cases hnow : sealsReady s g with
      | true =>
        rw [if_pos rfl, if_pos rfl]
        refine (frame_modFrame_same (markSealing g cause t) g fun fr =>
          { fr with imageLength := some fr.finalLength, stage := .writing }).trans ?_
        rw [hframe]
        rfl
      | false => rw [if_neg Bool.false_ne_true, if_neg Bool.false_ne_true, if_pos hopen, hframe]
    · rw [enterSealing_frame_other hgf]
      exact h.sealed g ((List.mem_append.1 hg).resolve_right (by simpa using hgf))
  case others =>
    rw [List.mem_append, List.mem_singleton, not_or] at hg
    rw [enterSealing_frame_other hg.2]
    exact h.others g hg.1
  case table =>
    rw [enterSealing, examine_classFrame, markSealing_classFrame, h.others f hf, h.table]
    by_cases hcls : (s.frame f).cls = some c
    · rw [if_pos hcls, if_pos ⟨f, by simp, hopen, hcls⟩]
    · have hiff : (∃ g ∈ done ++ [f], (s.frame g).state = .opened ∧ (s.frame g).cls = some c) ↔
          ∃ g ∈ done, (s.frame g).state = .opened ∧ (s.frame g).cls = some c := by
        simp [or_and_right, exists_or, hcls]
      rw [if_neg hcls]
      simp only [hiff]
  case queue =>
    rw [enterSealing, examine, hready, List.filter_append, List.map_append, ← List.append_assoc, ← h.queue]
    cases hnow : sealsReady s f with
    | true =>
      have hjob : directoryJob f ((markSealing f cause t).frame f) = directoryJob f (s.frame f) := by
        rw [hframe]
        rfl
      rw [if_pos rfl, makeReady, hjob]
      simp [hnow]
    | false => simp [hnow]
  case rest =>
    obtain ⟨frames, classTable, fill, hfixed⟩ := enterSealing_fixed t f cause
    obtain ⟨frames', classTable', fill', hrest⟩ := h.rest
    exact ⟨frames, classTable, fill, by rw [hfixed, hrest]⟩

/-- One more frame has had its round. -/
theorem FramesSealed.round {cause : SealCause} {done : List FrameNo} (h : FramesSealed cause s done t) (hf : f ∉ done) :
    FramesSealed cause s (done ++ [f]) (requestSeal f cause t) := by
  rw [requestSeal, h.others f hf]
  by_cases hopen : (s.frame f).state = .opened
  · rw [if_pos (by simp [hopen])]
    exact h.round_opened hf hopen
  · have hready : sealsReady s f = false := by simp [sealsReady, hopen]
    rw [if_neg (by simp [hopen])]
    refine ⟨fun g hg => ?_, fun g hg => h.others g fun hmem => hg (List.mem_append_left _ hmem), fun c => ?_, ?_, h.rest⟩
    · rcases List.mem_append.1 hg with hg | hg
      · exact h.sealed g hg
      · rw [List.mem_singleton.1 hg, h.others f hf, stoppedFrame, hready]
        simp [hopen]
    · have hiff : (∃ g ∈ done ++ [f], (s.frame g).state = .opened ∧ (s.frame g).cls = some c) ↔
          ∃ g ∈ done, (s.frame g).state = .opened ∧ (s.frame g).cls = some c := by
        simp [or_and_right, exists_or, hopen]
      rw [h.table]
      simp only [hiff]
    · rw [h.queue]
      simp [hready]

/-- A stop seals every OPEN frame (R55, R175). -/
theorem framesSealed_forFrames (cause : SealCause) (s : State) :
    FramesSealed cause s frameNos (forFrames (fun f => requestSeal f cause) s) :=
  forFrames_rounds (P := FramesSealed cause s)
    ⟨fun _ h => absurd h List.not_mem_nil, fun _ _ => rfl, fun c => by simp, by simp, ⟨_, _, _, rfl⟩⟩
    fun _ _ _ hf h => h.round hf

/-! ## Records answered one after the other -/

/-- The records in `slots` have been answered with a code, between the ports `p` and `q`. -/
structure SlotsAnswered (code : RespCode) (p : Port) (slots : List Nat) (q : Port) : Prop where
  writes : q.writes = p.writes.filter fun r => !slots.contains r.slot
  answers : ∀ slot ∈ slots, ∀ r, p.writes.find? (fun r => r.slot == slot) = some r →
    ({ stream := .write, tag := r.tag, code := code, data := [] } : FabricAnswer) ∈ q.answers
  same : slots = [] → q = p

theorem SlotsAnswered.start {code : RespCode} {p : Port} : SlotsAnswered code p [] p :=
  ⟨(List.filter_eq_self.2 fun _ _ => rfl).symm, fun _ h => absurd h List.not_mem_nil, fun _ => rfl⟩

/-- A record not yet answered is still the first of its slot. -/
theorem SlotsAnswered.find {code : RespCode} {p q : Port} {slots : List Nat} (h : SlotsAnswered code p slots q) {slot : Nat}
    (hnew : slot ∉ slots) : q.writes.find? (fun r => r.slot == slot) = p.writes.find? (fun r => r.slot == slot) := by
  rw [h.writes, List.find?_filter]
  congr 1
  funext r
  by_cases hr : r.slot = slot
  · simp [hr, hnew]
  · simp [hr]

/-- One more record is answered, unless an answer before took it. -/
theorem SlotsAnswered.step {code : RespCode} {p : Port} {slots : List Nat} (h : SlotsAnswered code p slots t.port) (slot : Nat) :
    SlotsAnswered code p (slots ++ [slot]) (answerRecord .write slot code [] t).port := by
  have hwrites : t.port.writes.filter (fun r => r.slot != slot) =
      p.writes.filter fun r => !(slots ++ [slot]).contains r.slot := by
    rw [h.writes, List.filter_filter]
    congr 1
    funext r
    simp [Bool.and_comm, bne, beq_eq_decide]
  cases hfind : t.findRecord .write slot with
  | some r =>
    rw [answerRecord_write hfind]
    refine ⟨hwrites, fun k hk x hx => ?_, fun hnil => absurd hnil (by simp)⟩
    by_cases hold : k ∈ slots
    · exact List.mem_append_left _ (h.answers k hold x hx)
    · obtain rfl : k = slot := by simpa [hold] using hk
      have hsame : some r = some x := hfind.symm.trans ((h.find hold).trans hx)
      cases hsame
      exact List.mem_append_right _ List.mem_cons_self
  | none =>
    have hunchanged : answerRecord .write slot code [] t = t := by rw [answerRecord, hfind]
    have hnone : ∀ r ∈ t.port.writes, (r.slot != slot) = true := by
      simpa [State.findRecord, State.records] using hfind
    rw [hunchanged]
    refine ⟨?_, fun k hk x hx => ?_, fun hnil => absurd hnil (by simp)⟩
    · rw [← hwrites, List.filter_eq_self.2 hnone]
    · by_cases hold : k ∈ slots
      · exact h.answers k hold x hx
      · obtain rfl : k = slot := by simpa [hold] using hk
        exact absurd (((h.find hold).trans hx).symm.trans hfind) nofun

/-- No record of an answered slot is left. -/
theorem SlotsAnswered.gone {code : RespCode} {p : Port} {slots : List Nat} (h : SlotsAnswered code p slots t.port) {slot : Nat}
    (hslot : slot ∈ slots) : t.findRecord .write slot = none := by
  have hnone : t.port.writes.find? (fun r => r.slot == slot) = none := by
    rw [h.writes, List.find?_filter, List.find?_eq_none]
    rintro r - hr
    obtain ⟨hnot, rfl⟩ : r.slot ∉ slots ∧ r.slot = slot := by simpa using hr
    exact hnot hslot
  exact hnone

/-! ## The lanes that hold an announce (R32) -/

/-- The record of the write that lane `l` holds. -/
def heldSlot (s : State) (l : LaneNo) : Option Nat := (s.lane l).held.map (·.slot)

/-- The lanes in `done` that hold an announce have had it refused by a stop, between `s` and `t`. -/
structure HoldsRefused (s : State) (done : List LaneNo) (t : State) : Prop where
  refused : ∀ l ∈ done, t.lane l = stoppedLane (s.lane l)
  others : ∀ l, l ∉ done → t.lane l = s.lane l
  waitList : t.waitList = s.waitList.filter fun l => !(done.contains l && (s.lane l).held.isSome)
  attn : t.attn = { s.attn with laneErr := s.attn.laneErr || done.any fun l => (s.lane l).held.isSome }
  port : SlotsAnswered .refused s.port (done.filterMap (heldSlot s)) t.port
  rest : ∃ port lanes waitList attn, t = { s with port := port, lanes := lanes, waitList := waitList, attn := attn }

/-- One more lane has had its round. -/
theorem HoldsRefused.round {done : List LaneNo} (h : HoldsRefused s done t) (hl : l ∉ done) :
    HoldsRefused s (done ++ [l]) (refuseHeld l .refusedStopping t) := by
  have hlane := h.others l hl
  cases hheld : (s.lane l).held with
  | none =>
    have hsame : refuseHeld l .refusedStopping t = t := by rw [refuseHeld, hlane, hheld]
    rw [hsame]
    refine ⟨fun k hk => ?_, fun k hk => h.others k fun hmem => hk (List.mem_append_left _ hmem), ?_, ?_, ?_, h.rest⟩
    · rcases List.mem_append.1 hk with hk | hk
      · exact h.refused k hk
      · rw [List.mem_singleton.1 hk, hlane, stoppedLane, hheld]
    · rw [h.waitList]
      congr 1
      funext k
      by_cases hk : k = l
      · simp [hk, hheld]
      · simp [hk]
    · rw [h.attn]
      simp [hheld]
    · rw [List.filterMap_append]
      simpa [heldSlot, hheld] using h.port
  | some x =>
    rw [refuseHeld_held (hlane ▸ hheld)]
    refine ⟨fun k hk => ?_, fun k hk => ?_, ?_, ?_, ?_, ?_⟩
    · by_cases hkl : k = l
      · subst hkl
        refine (lane_modLane_same t k (Lane.heldRefused (x.ann.refusal .refusedStopping))).trans ?_
        rw [hlane, stoppedLane, hheld]
        rfl
      · exact (lane_modLane_other t hkl (Lane.heldRefused (x.ann.refusal .refusedStopping))).trans
          (h.refused k ((List.mem_append.1 hk).resolve_right (by simpa using hkl)))
    · rw [List.mem_append, List.mem_singleton, not_or] at hk
      exact (lane_modLane_other t hk.2 (Lane.heldRefused (x.ann.refusal .refusedStopping))).trans (h.others k hk.1)
    · show t.waitList.filter _ = _
      rw [h.waitList, List.filter_filter]
      congr 1
      funext k
      by_cases hk : k = l
      · simp [hk, hheld]
      · simp [hk]
    · show ({ t.attn with laneErr := true } : AttnFlags) = _
      rw [h.attn]
      simp [hheld]
    · rw [List.filterMap_append]
      simpa [heldSlot, hheld] using h.port.step x.slot
    · obtain ⟨port, lanes, waitList, attn, hrest⟩ := h.rest
      exact ⟨_, _, _, _, by rw [hrest]; rfl⟩

/-- A stop refuses every held announce (R32, R175). -/
theorem holdsRefused_forLanes (s : State) : HoldsRefused s laneNos (forLanes (fun l => refuseHeld l .refusedStopping) s) :=
  forLanes_rounds (P := HoldsRefused s)
    ⟨fun _ h => absurd h List.not_mem_nil, fun _ _ => rfl, by simp, by simp, SlotsAnswered.start, ⟨_, _, _, _, rfl⟩⟩
    fun _ _ _ hl h => h.round hl

/-! ## What a stop begins (R175) -/

theorem heldSlot_none_iff : heldSlot s l = none ↔ (s.lane l).held = none := Option.map_eq_none_iff

/-- STOP and HALT begin as R175 states: `framesSealed_forFrames`, then `holdsRefused_forLanes`. -/
theorem stopBegun {a : Action} {cause : SealCause} (hlanes : LanesOk s) (htable : ClassTableOk s) :
    StopBegun a cause s (beginStop a cause s) := by
  have hsealed := framesSealed_forFrames cause (modRun (fun r => { r with global := .stopping, running := some a }) s)
  obtain ⟨frames, classTable, fill, hfixed⟩ := hsealed.rest
  have hrefused := holdsRefused_forLanes (forFrames (fun f => requestSeal f cause)
    (modRun (fun r => { r with global := .stopping, running := some a }) s))
  obtain ⟨port, lanes, waitList, attn, hrest⟩ := hrefused.rest
  rw [← beginStop] at hrefused hrest
  rw [hfixed] at hrefused hrest hsealed
  have hlane : ∀ l, (beginStop a cause s).lane l = stoppedLane (s.lane l) := fun l => hrefused.refused l (laneNos_complete l)
  have hframe : ∀ f, (beginStop a cause s).frame f = stoppedFrame s cause f := fun f => by
    rw [hrest]
    exact hsealed.sealed f (frameNos_complete f)
  have hanswered := hrefused.port
  refine ⟨by rw [hrest]; rfl, fun c => ?table, ?waits, hlane, fun f hf => ?kept, fun f hf hready => ?ready,
    fun f hf hready => ?gathering, ⟨frameNos.filter (sealsReady s), ?ascending, fun f => ?directories, ?queue⟩,
    fun l h r hheld hfind => ?answered, fun hnone => ?port, ?attn, ?rest⟩
  case table =>
    have hentry : (beginStop a cause s).classFrame c = if ∃ f ∈ frameNos, (s.frame f).state = .opened ∧
        (s.frame f).cls = some c then none else s.classFrame c := by
      rw [hrest]
      exact hsealed.table c
    rw [hentry]
    split
    · rfl
    · next hnone =>
      cases hc : s.classFrame c with
      | none => rfl
      | some f => exact absurd ⟨f, frameNos_complete f, (htable c f).1 hc⟩ hnone
  case waits =>
    rw [hrefused.waitList, List.filter_eq_nil_iff]
    intro l hl
    obtain ⟨h, hheld, -⟩ := (hlanes.2.2 l).1 hl
    have hheld' : (s.lane l).held.isSome = true := by rw [hheld]; rfl
    have hmem : laneNos.contains l = true := by simpa using laneNos_complete l
    show ¬ (!(laneNos.contains l && (s.lane l).held.isSome)) = true
    rw [hmem, hheld']
    decide
  case kept =>
    have hready : sealsReady s f = false := by simp [sealsReady, hf]
    rw [hframe, stoppedFrame, hready, if_neg Bool.false_ne_true, if_neg hf]
  case ready =>
    rw [hframe, stoppedFrame, if_pos (sealsReady_iff.2 ⟨hf, hready⟩)]
    rfl
  case gathering =>
    rw [hframe, stoppedFrame, if_neg fun h => hready (sealsReady_iff.1 h).2, if_pos hf]
    rfl
  case ascending => exact frameNos_pairwise.filter _
  case directories =>
    rw [List.mem_filter, sealsReady_iff]
    exact and_iff_right (frameNos_complete f)
  case queue =>
    rw [hrest]
    exact hsealed.queue
  case answered =>
    have hmem : h.slot ∈ laneNos.filterMap (heldSlot s) :=
      List.mem_filterMap.2 ⟨l, laneNos_complete l, by rw [heldSlot, hheld]; rfl⟩
    exact ⟨hanswered.answers h.slot hmem r hfind, hanswered.gone hmem⟩
  case port => exact hanswered.same (List.filterMap_eq_nil_iff.2 fun l _ => heldSlot_none_iff.2 (hnone l))
  case attn =>
    rw [hrefused.attn]
    have hany : (laneNos.any fun l => (s.lane l).held.isSome) = decide (∃ l, (s.lane l).held ≠ none) := by
      rw [Bool.eq_iff_iff, List.any_eq_true, decide_eq_true_iff]
      simp [laneNos_complete, Option.isSome_iff_ne_none]
    exact congrArg (fun b => { s.attn with laneErr := s.attn.laneErr || b }) hany
  case rest =>
    rw [hrest]
    rfl

end Sys2Proof.Machine
end

section
/-! PROOFS. The voids that HALT begins and those that end at once: HaltVoids (R176), and the settled statement StopBegins. -/

namespace Sys2Proof.Machine

open Sys2Proof.Config

variable {s t u v : State} {l k : LaneNo} {f g : FrameNo} {e : Nat} {en : Entry} {cause : VoidCause}

/-! ## What the beginning of a void changes (R77) -/

/-- The part of an entry that no void changes. -/
def Entry.fixed (en : Entry) : Entry := { en with state := .placed, received := 0, endTick := none }

@[simp] theorem fixed_beginVoid (en : Entry) : en.beginVoid.fixed = en.fixed := by
  unfold Entry.beginVoid
  split <;> rfl

@[simp] theorem fixed_voided (n : Nat) (now : Tick) (en : Entry) : (en.voided n now).fixed = en.fixed := by
  unfold Entry.voided
  split <;> rfl

/-- The entries of frame `g` after an update of the entry that a lane's file refers to. -/
def fileEntries (file : Option (FrameNo × Nat)) (g : FrameNo) (h : Entry → Entry) (es : List Entry) : List Entry :=
  file.elim es fun x => if x.1 = g then es.modify x.2 h else es

theorem fileEntries_fileEntries (file : Option (FrameNo × Nat)) (g : FrameNo) (h h' : Entry → Entry) (es : List Entry) :
    fileEntries file g h' (fileEntries file g h es) = fileEntries file g (h' ∘ h) es := by
  obtain _ | ⟨f, e⟩ := file
  · rfl
  · by_cases hf : f = g <;> simp [fileEntries, hf, List.modify_modify_eq]

theorem frame_modEntry (s : State) (f g : FrameNo) (e : Nat) (h : Entry → Entry) :
    (modEntry f e h s).frame g = { s.frame g with entries := fileEntries (some (f, e)) g h (s.frame g).entries } := by
  rw [modEntry, frame_modFrame]
  by_cases hg : g = f
  · subst hg
    simp [fileEntries]
  · simp [fileEntries, hg, Ne.symm hg]

theorem voidEntry_frame (s : State) (l : LaneNo) (g : FrameNo) : (voidEntry l s).frame g =
    { s.frame g with entries := fileEntries (s.lane l).file g Entry.beginVoid (s.frame g).entries } := by
  unfold voidEntry
  split
  · next f e hfile =>
    rw [hfile, frame_modEntry]
  · next hfile =>
    rw [hfile]
    rfl

theorem voidEntry_eq (s : State) (l : LaneNo) : voidEntry l s = { s with frames := (voidEntry l s).frames } := by
  unfold voidEntry
  split <;> rfl

/-- The beginning of a void, block by block (R77). -/
theorem beginVoid_blocks (s : State) (l : LaneNo) (cause : VoidCause) : beginVoid l cause s =
    { s with port := (giveLastAnswer l s).port, lanes := (beginVoid l cause s).lanes, frames := (beginVoid l cause s).frames } := by
  have hgiven : giveLastAnswer l s = { s with port := (giveLastAnswer l s).port } := by
    unfold giveLastAnswer
    split
    · exact answerRecord_eq _ _ _ _ _
    · rfl
  have hblocks : beginVoid l cause s =
      { giveLastAnswer l s with lanes := (beginVoid l cause s).lanes, frames := (beginVoid l cause s).frames } := by
    rw [beginVoid, voidEntry_eq]
    rfl
  exact hblocks.trans (congrArg (fun w : State =>
    { w with lanes := (beginVoid l cause s).lanes, frames := (beginVoid l cause s).frames }) hgiven)

theorem beginVoid_lane_same (s : State) (l : LaneNo) (cause : VoidCause) :
    (beginVoid l cause s).lane l = (s.lane l).beginVoid cause := by
  rw [beginVoid, lane_modLane_same, voidEntry_lane, giveLastAnswer_lane]

theorem beginVoid_lane_other (h : k ≠ l) : (beginVoid l cause s).lane k = s.lane k := by
  rw [beginVoid, lane_modLane_other _ h, voidEntry_lane, giveLastAnswer_lane]

theorem giveLastAnswer_frame (s : State) (l : LaneNo) (g : FrameNo) : (giveLastAnswer l s).frame g = s.frame g := by
  unfold giveLastAnswer
  split
  · rw [answerRecord_eq]
    rfl
  · rfl

theorem beginVoid_frame (s : State) (l : LaneNo) (cause : VoidCause) (g : FrameNo) : (beginVoid l cause s).frame g =
    { s.frame g with entries := fileEntries (s.lane l).file g Entry.beginVoid (s.frame g).entries } := by
  have hframe : (beginVoid l cause s).frame g = (voidEntry l (giveLastAnswer l s)).frame g := rfl
  rw [hframe, voidEntry_frame, giveLastAnswer_frame, giveLastAnswer_lane]

theorem beginVoid_fill (s : State) (l : LaneNo) (cause : VoidCause) : (beginVoid l cause s).fill = s.fill := by
  rw [beginVoid_blocks]

/-! ## What HALT does to one lane (R176) -/

/-- The void that HALT begins on lane `l` may end at once (R78). -/
def haltEnds (s : State) (l : LaneNo) : Bool :=
  (s.lane l).state == .receiving && (s.lane l).outstanding == 0 && decide (s.laneJobs l ≤ 1)

/-- The file whose void HALT begins and ends at once on lane `l`. -/
def haltFile (s : State) (l : LaneNo) : Option (FrameNo × Nat × Entry) :=
  if haltEnds s l then (s.currentFile l).map fun x => (x.1, x.2.1, x.2.2.fixed) else none

/-- The lane once the void of its file has ended (R79). -/
def endedLane (x : FrameNo × Nat × Entry) (serial : Serial) (ln : Lane) : Lane :=
  { ln.pushResult (voidResult .voidHalt x.2.1 x.2.2 serial) with
    voided := ln.voided + 1, state := .idle, held := none, file := none, extents := [], outstanding := 0
    timer := none, firstWrite := false, muteMark := false, voidCause := none, lastWrite := none }

/-- Lane `l` as HALT leaves it. -/
def haltedLane (s : State) (l : LaneNo) : Lane :=
  if (s.lane l).state = .receiving then
    (haltFile s l).elim ((s.lane l).beginVoid .halt) fun x => endedLane x (s.frame x.1).serial (s.lane l)
  else s.lane l

/-- What HALT does to the entry of lane `l`'s file. -/
def haltedEntry (s : State) (l : LaneNo) (en : Entry) : Entry :=
  if (haltFile s l).isSome then en.beginVoid.voided (claimedBytes (s.lane l).extents) s.tick else en.beginVoid

/-- The file of a lane that HALT voids. -/
def voidedFile (s : State) (l : LaneNo) : Option (FrameNo × Nat) :=
  if (s.lane l).state = .receiving then (s.lane l).file else none

/-- What HALT withdraws from the pack sum of frame `g` for lane `l`. -/
def haltedSums (s : State) (l : LaneNo) (g : FrameNo) (sums : TwoSum) : TwoSum :=
  (haltFile s l).elim sums fun x => if x.1 = g then sums.withdraw x.2.2.sums ((x.2.2.off + 64) / 4) else sums

/-- What HALT does to frame `g` for lane `l`. -/
def haltedFrame (s : State) (g : FrameNo) (fr : Frame) (l : LaneNo) : Frame :=
  { fr with entries := fileEntries (voidedFile s l) g (haltedEntry s l) fr.entries, sums := haltedSums s l g fr.sums }

/-- The VOID_FILL job of lane `l`. -/
def haltedJobs (s : State) (l : LaneNo) : List Job := (haltFile s l).toList.map fun x => voidFillJob l x.1 x.2.2

/-- The record of lane `l`'s last body write, when HALT gives it its answer. -/
def haltedSlot (s : State) (l : LaneNo) : Option Nat :=
  if (s.lane l).state = .receiving then (s.lane l).lastWrite else none

/-- HALT has done lane `l`'s round, between `s` and `t`. -/
structure LaneHalted (l : LaneNo) (s t : State) : Prop where
  lane : t.lane l = haltedLane s l
  others : ∀ k, k ≠ l → t.lane k = s.lane k
  frames : ∀ g, t.frame g = haltedFrame s g (s.frame g) l
  queue : t.fill.queue = s.fill.queue ++ haltedJobs s l
  attn : t.attn = { s.attn with laneErr := s.attn.laneErr || (haltFile s l).isSome }
  port : t.port = (haltedSlot s l).elim s.port fun slot => (answerRecord .write slot .okay [] s).port
  rest : ∃ port lanes frames fill attn,
    t = { s with port := port, lanes := lanes, frames := frames, fill := fill, attn := attn }

theorem haltFile_of_not_receiving (h : (s.lane l).state ≠ .receiving) : haltFile s l = none :=
  if_neg (by simp [haltEnds, h])

theorem giveLastAnswer_port (h : (s.lane l).state = .receiving) : (giveLastAnswer l s).port =
    (haltedSlot s l).elim s.port fun slot => (answerRecord .write slot .okay [] s).port := by
  rw [giveLastAnswer, haltedSlot, if_pos h]
  obtain hlast | ⟨slot, hlast⟩ := Option.eq_none_or_eq_some (s.lane l).lastWrite <;> rw [hlast] <;> rfl

/-- A lane that receives no file stays as it is (R176). -/
theorem LaneHalted.of_not_receiving (h : (s.lane l).state ≠ .receiving) : LaneHalted l s s := by
  have hfile := haltFile_of_not_receiving h
  refine ⟨?_, fun _ _ => rfl, fun g => ?_, ?_, ?_, ?_, ⟨_, _, _, _, _, rfl⟩⟩
  · rw [haltedLane, if_neg h]
  · rw [haltedFrame, voidedFile, if_neg h, haltedSums, hfile]
    rfl
  · rw [haltedJobs, hfile]
    exact (List.append_nil _).symm
  · rw [hfile]
    simp
  · rw [haltedSlot, if_neg h]
    rfl

/-- A void that does not end leaves its lane VOIDING (R77). -/
theorem LaneHalted.of_goingOn (h : (s.lane l).state = .receiving) (hfile : haltFile s l = none) :
    LaneHalted l s (beginVoid l .halt s) := by
  have hblocks := beginVoid_blocks s l .halt
  refine ⟨?_, fun k hk => beginVoid_lane_other hk, fun g => ?_, ?_, ?_, ?_, ⟨_, _, _, _, _, hblocks⟩⟩
  · rw [haltedLane, if_pos h, hfile, beginVoid_lane_same]
    rfl
  · have hentry : haltedEntry s l = Entry.beginVoid := by
      funext en
      rw [haltedEntry, hfile]
      rfl
    rw [haltedFrame, hentry, voidedFile, if_pos h, haltedSums, hfile, beginVoid_frame]
    rfl
  · rw [haltedJobs, hfile, beginVoid_fill]
    exact (List.append_nil _).symm
  · rw [hfile, hblocks]
    simp
  · rw [hblocks]
    exact giveLastAnswer_port h

/-- What a lane keeps when a void of its file ends, beside the entry: the frame's serial. -/
theorem beginVoid_serial (s : State) (l : LaneNo) (cause : VoidCause) (g : FrameNo) :
    ((beginVoid l cause s).frame g).serial = (s.frame g).serial := by rw [beginVoid_frame]

theorem pushResult_beginVoid (ln : Lane) (cause : VoidCause) (r : Result) :
    (ln.beginVoid cause).pushResult r = (ln.pushResult r).beginVoid cause := by
  by_cases hroom : ln.results.length < resultCapacity <;> simp [Lane.pushResult, Lane.beginVoid, hroom]

theorem beginVoid_off (en : Entry) : en.beginVoid.off = en.off := by
  unfold Entry.beginVoid
  split <;> rfl

/-- The record of a void's end, block by block (R79). -/
theorem voidRecorded_blocks (l : LaneNo) (f : FrameNo) (e : Nat) (en : Entry) (s : State) :
    ∃ lanes frames, voidRecorded l f e en s =
      { s with lanes := lanes, frames := frames, fill := (enqueueJob (voidFillJob l f en) s).fill
               attn := { s.attn with laneErr := true } } :=
  ⟨_, _, voidRecorded_eq l f e en s⟩

theorem voidRecorded_lane_other (h : k ≠ l) : (voidRecorded l f e en s).lane k = s.lane k := by
  rw [voidRecorded_eq]
  exact lane_modLane_other (modEntry f e (Entry.voided (claimedBytes (s.lane l).extents) s.tick) (withdrawShare f en s)) h
    fun ln => { ln.pushResult (voidResult (ln.voidCause.getD .timeout).result e en (s.frame f).serial) with
          voided := ln.voided + 1 }

theorem voidRecorded_frame (l : LaneNo) (f : FrameNo) (e : Nat) (en : Entry) (s : State) (g : FrameNo) :
    (voidRecorded l f e en s).frame g = { s.frame g with
      entries := fileEntries (some (f, e)) g (Entry.voided (claimedBytes (s.lane l).extents) s.tick) (s.frame g).entries
      sums := if f = g then (s.frame g).sums.withdraw en.sums ((en.off + 64) / 4) else (s.frame g).sums } := by
  have hframe : (voidRecorded l f e en s).frame g =
      (modEntry f e (Entry.voided (claimedBytes (s.lane l).extents) s.tick) (withdrawShare f en s)).frame g := by
    rw [voidRecorded_eq]
    rfl
  rw [hframe, frame_modEntry, withdrawShare, frame_modFrame]
  by_cases hg : g = f
  · subst hg
    simp
  · rw [if_neg hg, if_neg (Ne.symm hg)]

/-- A void that ends at once leaves what R79 says. -/
theorem LaneHalted.of_ended (h : (s.lane l).state = .receiving) (hends : haltEnds s l = true)
    (hfile : (s.lane l).file = some (f, e)) (hentry : s.entry? f e = some en) :
    LaneHalted l s (endVoid l (beginVoid l .halt s)) := by
  have hhalt : haltFile s l = some (f, e, en.fixed) := by
    rw [haltFile, if_pos hends, currentFile_some hfile hentry]
    rfl
  have hlane := beginVoid_lane_same s l .halt
  have hbegun : (beginVoid l .halt s).entry? f e = some en.beginVoid := by
    have hentry' : (s.frame f).entries[e]? = some en := hentry
    rw [State.entry?, beginVoid_frame, hfile]
    simp [fileEntries, hentry']
  have hblocks := beginVoid_blocks s l .halt
  have hafter : endVoid l (beginVoid l .halt s) =
      modLane l (fun ln => { ln.dropFile with state := if ln.muteMark then .muted else .idle, muteMark := false })
        (voidRecorded l f e en.beginVoid (beginVoid l .halt s)) := by
    have hheld : ((voidRecorded l f e en.beginVoid (beginVoid l .halt s)).lane l).held = none := by
      rw [(voidRecorded_lane l f e en.beginVoid (beginVoid l .halt s)).1, hlane]
      rfl
    rw [endVoid_eq (by rw [hlane]; exact hfile) hbegun, afterVoid, hheld]
  have hframe : ∀ g, (voidRecorded l f e en.beginVoid (beginVoid l .halt s)).frame g = haltedFrame s g (s.frame g) l := by
    intro g
    rw [voidRecorded_frame, beginVoid_frame, haltedFrame, haltedSums, hhalt, voidedFile, if_pos h, hfile,
      fileEntries_fileEntries, hlane, beginVoid_sums, beginVoid_off]
    have hentry : haltedEntry s l = Entry.voided (claimedBytes (s.lane l).extents) s.tick ∘ Entry.beginVoid := by
      funext x
      rw [haltedEntry, hhalt]
      rfl
    rw [hentry, hblocks]
    rfl
  have hjob : voidFillJob l f en.beginVoid.fixed = voidFillJob l f en.fixed :=
    congrArg (voidFillJob l f) (fixed_beginVoid en)
  have hresult : ∀ serial, voidResult .voidHalt e en.beginVoid.fixed serial = voidResult .voidHalt e en.fixed serial :=
    fun serial => congrArg (fun x => voidResult .voidHalt e x serial) (fixed_beginVoid en)
  have hrecorded : ∃ lanes frames, voidRecorded l f e en.beginVoid (beginVoid l .halt s) =
      { s with port := (giveLastAnswer l s).port, lanes := lanes, frames := frames
               fill := (enqueueJob (voidFillJob l f en.fixed) s).fill, attn := { s.attn with laneErr := true } } := by
    obtain ⟨lanes, frames, hrecorded⟩ := voidRecorded_blocks l f e en.beginVoid (beginVoid l .halt s)
    refine ⟨lanes, frames, hrecorded.trans ?_⟩
    rw [← hjob, hblocks]
    rfl
  obtain ⟨lanes, frames, hrecorded⟩ := hrecorded
  rw [hafter]
  refine ⟨?lane, fun k hk => ?others, hframe, ?queue, ?attn, ?port, ?rest⟩
  case lane =>
    rw [haltedLane, if_pos h, hhalt, lane_modLane_same, voidRecorded_lane_same, hlane, beginVoid_serial]
    refine Eq.trans ?_ (congrArg (fun r => { (s.lane l).pushResult r with
      voided := (s.lane l).voided + 1, state := .idle, held := none, file := none, extents := [], outstanding := 0
      timer := none, firstWrite := false, muteMark := false, voidCause := none, lastWrite := none })
      (hresult (s.frame f).serial))
    rw [pushResult_beginVoid]
    rfl
  case others =>
    rw [lane_modLane_other _ hk, voidRecorded_lane_other hk, beginVoid_lane_other hk]
  case queue =>
    rw [haltedJobs, hhalt, hrecorded]
    rfl
  case attn =>
    rw [hhalt, hrecorded]
    simp
  case port =>
    rw [← giveLastAnswer_port h, hrecorded]
    rfl
  case rest =>
    rw [hrecorded]
    exact ⟨_, _, _, _, _, rfl⟩

theorem currentFile_eq_some_iff :
    s.currentFile l = some (f, e, en) ↔ (s.lane l).file = some (f, e) ∧ s.entry? f e = some en := by
  refine ⟨fun h => ?_, fun ⟨hfile, hentry⟩ => currentFile_some hfile hentry⟩
  unfold State.currentFile at h
  split at h
  · next hfile =>
    obtain ⟨x, hx, heq⟩ := Option.map_eq_some_iff.1 h
    cases heq
    exact ⟨hfile, hx⟩
  · cases h

/-- A lane's file is still its file when its void begins. -/
theorem currentFile_beginVoid (s : State) (l : LaneNo) (cause : VoidCause) : (beginVoid l cause s).currentFile l =
    (s.currentFile l).map fun x => (x.1, x.2.1, x.2.2.beginVoid) := by
  have hfile : ((beginVoid l cause s).lane l).file = (s.lane l).file := by
    rw [beginVoid_lane_same]
    rfl
  simp only [State.currentFile, hfile, State.entry?, beginVoid_frame]
  obtain hnone | ⟨⟨f, e⟩, hsome⟩ := Option.eq_none_or_eq_some (s.lane l).file
  · simp [hnone]
  · simp [hsome, fileEntries, Function.comp_def]

/-- One round of HALT (R176). -/
theorem laneHalted_haltLane (l : LaneNo) (s : State) : LaneHalted l s (haltLane l s) := by
  by_cases h : (s.lane l).state = .receiving
  · have hmay : voidMayEnd (beginVoid l .halt s) l = haltEnds s l := by
      have hjobs : (beginVoid l .halt s).laneJobs l = s.laneJobs l := by rw [State.laneJobs, beginVoid_fill]; rfl
      rw [voidMayEnd, haltEnds, hjobs, beginVoid_lane_same, h]
      rfl
    rw [haltLane, if_pos (by simp [h]), tryVoidEnd, hmay]
    cases hends : haltEnds s l with
    | false =>
      exact .of_goingOn h (if_neg (by simp [hends]))
    | true =>
      cases hcurrent : s.currentFile l with
      | none =>
        have hbegun : (beginVoid l .halt s).currentFile l = none := by rw [currentFile_beginVoid, hcurrent]; rfl
        have hsame : endVoid l (beginVoid l .halt s) = beginVoid l .halt s := by rw [endVoid, hbegun]
        rw [if_pos rfl, hsame]
        exact .of_goingOn h (by rw [haltFile, hcurrent]; simp)
      | some x =>
        obtain ⟨f, e, en⟩ := x
        obtain ⟨hfile, hentry⟩ := currentFile_eq_some_iff.1 hcurrent
        rw [if_pos rfl]
        exact .of_ended h hends hfile hentry
  · rw [haltLane, if_neg (by simp [h])]
    exact .of_not_receiving h

/-! ## What HALT does to all lanes (R176) -/

theorem fixed_haltedEntry (s : State) (l : LaneNo) (en : Entry) : (haltedEntry s l en).fixed = en.fixed := by
  unfold haltedEntry
  split <;> simp

theorem fileEntries_fixed {h : Entry → Entry} (hfixed : ∀ en, (h en).fixed = en.fixed) (file : Option (FrameNo × Nat))
    (g : FrameNo) (es : List Entry) : (fileEntries file g h es).map Entry.fixed = es.map Entry.fixed := by
  obtain _ | ⟨f, e⟩ := file
  · rfl
  · rw [fileEntries, Option.elim_some]
    split
    · refine List.ext_getElem? fun i => ?_
      by_cases hi : e = i <;> simp [hi, Function.comp_def, hfixed]
    · rfl

/-- HALT changes only the entries and the pack sums of a frame, and of an entry no more than its state, its end tick and the
bytes received. -/
theorem foldl_haltedFrame_fixed (s : State) (g : FrameNo) (ls : List LaneNo) (fr : Frame) :
    { ls.foldl (haltedFrame s g) fr with entries := fr.entries, sums := fr.sums } = fr ∧
      (ls.foldl (haltedFrame s g) fr).entries.map Entry.fixed = fr.entries.map Entry.fixed := by
  induction ls generalizing fr with
  | nil => exact ⟨rfl, rfl⟩
  | cons l rest ih =>
    obtain ⟨hrest, hentries⟩ := ih (haltedFrame s g fr l)
    refine ⟨?_, hentries.trans (fileEntries_fixed (fixed_haltedEntry s l) _ _ _)⟩
    exact congrArg (fun x : Frame => { x with entries := fr.entries, sums := fr.sums }) hrest

/-- HALT has done the rounds of the lanes in `done`, between `s` and `t`. -/
structure LanesHalted (s : State) (done : List LaneNo) (t : State) : Prop where
  lanes : ∀ l ∈ done, t.lane l = haltedLane s l
  others : ∀ l, l ∉ done → t.lane l = s.lane l
  frames : ∀ g, t.frame g = done.foldl (haltedFrame s g) (s.frame g)
  queue : t.fill.queue = s.fill.queue ++ done.flatMap (haltedJobs s)
  attn : t.attn = { s.attn with laneErr := s.attn.laneErr || done.any fun l => (haltFile s l).isSome }
  port : SlotsAnswered .okay s.port (done.filterMap (haltedSlot s)) t.port
  rest : ∃ port lanes frames fill attn,
    t = { s with port := port, lanes := lanes, frames := frames, fill := fill, attn := attn }

/-- The rounds of other lanes do not change what HALT does to a lane. -/
theorem LanesHalted.file {done : List LaneNo} (h : LanesHalted s done t) (hl : l ∉ done) : haltFile t l = haltFile s l := by
  have hlane := h.others l hl
  have hjobs : t.laneJobs l = s.laneJobs l := by
    have hnone : (done.flatMap (haltedJobs s)).countP (fun j => j.lane == some l) = 0 := by
      rw [List.countP_eq_zero]
      intro j hj
      obtain ⟨k, hk, hj⟩ := List.mem_flatMap.1 hj
      obtain ⟨x, -, rfl⟩ := List.mem_map.1 hj
      have hne : k ≠ l := fun heq => hl (heq ▸ hk)
      simpa [voidFillJob] using hne
    rw [State.laneJobs, h.queue, List.countP_append, hnone]
    rfl
  have hfiles : (t.currentFile l).map (fun x => (x.1, x.2.1, x.2.2.fixed)) =
      (s.currentFile l).map fun x => (x.1, x.2.1, x.2.2.fixed) := by
    obtain hnone | ⟨⟨f, e⟩, hsome⟩ := Option.eq_none_or_eq_some (s.lane l).file
    · simp [State.currentFile, hlane, hnone]
    · have hentry := congrArg (·[e]?) (h.frames f ▸ (foldl_haltedFrame_fixed s f done (s.frame f)).2)
      simp only [List.getElem?_map] at hentry
      have hpair := congrArg (Option.map fun en => (f, e, en)) hentry
      simpa [State.currentFile, hlane, hsome, State.entry?, Function.comp_def] using hpair
  rw [haltFile, haltFile, haltEnds, haltEnds, hlane, hjobs, hfiles]

theorem LanesHalted.round {done : List LaneNo} (h : LanesHalted s done t) (hl : l ∉ done) :
    LanesHalted s (done ++ [l]) (haltLane l t) := by
  have hlane := h.others l hl
  have hfile := h.file hl
  have hround := laneHalted_haltLane l t
  obtain ⟨port, lanes, frames, fill, attn, hrest⟩ := h.rest
  obtain ⟨port', lanes', frames', fill', attn', hrest'⟩ := hround.rest
  have htick : t.tick = s.tick := by rw [hrest]
  refine ⟨fun k hk => ?_, fun k hk => ?_, fun g => ?_, ?_, ?_, ?_, ⟨port', lanes', frames', fill', attn', ?_⟩⟩
  · by_cases hkl : k = l
    · subst hkl
      have hserial : ∀ f, (t.frame f).serial = (s.frame f).serial := fun f => by
        rw [h.frames f]
        have hkept := congrArg Frame.serial (foldl_haltedFrame_fixed s f done (s.frame f)).1
        exact hkept
      rw [hround.lane, haltedLane, haltedLane, hlane, hfile]
      simp only [hserial]
    · rw [hround.others k hkl]
      exact h.lanes k ((List.mem_append.1 hk).resolve_right (by simpa using hkl))
  · rw [List.mem_append, List.mem_singleton, not_or] at hk
    rw [hround.others k hk.2, h.others k hk.1]
  · have hentry : haltedEntry t l = haltedEntry s l := by
      funext en
      rw [haltedEntry, haltedEntry, hfile, hlane, htick]
    rw [hround.frames, List.foldl_append, ← h.frames]
    show haltedFrame t g _ l = haltedFrame s g _ l
    rw [haltedFrame, haltedFrame, voidedFile, voidedFile, haltedSums, haltedSums, hlane, hfile, hentry]
  · rw [hround.queue, h.queue, haltedJobs, hfile, List.flatMap_append, List.append_assoc]
    simp [haltedJobs]
  · rw [hround.attn, h.attn, hfile]
    simp [Bool.or_assoc]
  · have hslot : haltedSlot t l = haltedSlot s l := by rw [haltedSlot, haltedSlot, hlane]
    rw [hround.port, hslot, List.filterMap_append]
    obtain hnone | ⟨slot, hsome⟩ := Option.eq_none_or_eq_some (haltedSlot s l)
    · simpa [hnone] using h.port
    · simpa [hsome] using h.port.step slot
  · rw [hrest', hrest]

/-- HALT does every lane's round (R176). -/
theorem lanesHalted_forLanes (s : State) : LanesHalted s laneNos (forLanes haltLane s) :=
  forLanes_rounds (P := LanesHalted s)
    ⟨fun _ h => absurd h List.not_mem_nil, fun _ _ => rfl, fun _ => rfl, by simp, by simp, SlotsAnswered.start,
      ⟨_, _, _, _, _, rfl⟩⟩
    fun _ _ _ hl h => h.round hl

/-! ## The entries, the sums and the queue that HALT leaves -/

/-- An entry that no voided file of the lanes refers to stays. -/
theorem foldl_haltedFrame_entry {ls : List LaneNo} (h : ∀ l ∈ ls, voidedFile s l ≠ some (g, e)) (fr : Frame) :
    (ls.foldl (haltedFrame s g) fr).entries[e]? = fr.entries[e]? := by
  induction ls generalizing fr with
  | nil => rfl
  | cons l rest ih =>
    have hround : (haltedFrame s g fr l).entries[e]? = fr.entries[e]? := by
      have hl := h l List.mem_cons_self
      rw [haltedFrame]
      obtain hnone | ⟨⟨f, i⟩, hsome⟩ := Option.eq_none_or_eq_some (voidedFile s l)
      · simp [hnone, fileEntries]
      · rw [hsome] at hl
        by_cases hf : f = g
        · subst hf
          have hi : i ≠ e := fun heq => hl (by rw [heq])
          simp [hsome, fileEntries, hi]
        · simp [hsome, fileEntries, hf]
    exact (ih (fun k hk => h k (List.mem_cons_of_mem _ hk)) _).trans hround

/-- An entry that the voided file of one lane alone refers to changes as that lane's round says. -/
theorem foldl_haltedFrame_entry_of_unique (hfile : voidedFile s l = some (g, e)) (hentry : s.entry? g e = some en)
    (honly : ∀ k, k ≠ l → voidedFile s k ≠ some (g, e)) :
    (laneNos.foldl (haltedFrame s g) (s.frame g)).entries[e]? = some (haltedEntry s l en) := by
  obtain ⟨before, after, hsplit⟩ := List.append_of_mem (laneNos_complete l)
  have hnodup := hsplit ▸ laneNos_nodup
  have hbefore : ∀ k ∈ before, voidedFile s k ≠ some (g, e) := fun k hk => honly k fun heq =>
    (List.nodup_append.1 hnodup).2.2 k hk l List.mem_cons_self heq
  have hafter : ∀ k ∈ after, voidedFile s k ≠ some (g, e) := fun k hk => honly k fun heq =>
    (List.nodup_cons.1 (List.nodup_append.1 hnodup).2.1).1 (heq ▸ hk)
  have hentry' : (before.foldl (haltedFrame s g) (s.frame g)).entries[e]? = some en :=
    (foldl_haltedFrame_entry hbefore _).trans hentry
  rw [hsplit, List.foldl_append, List.foldl_cons, foldl_haltedFrame_entry hafter, haltedFrame, hfile]
  simp [fileEntries, hentry']

/-- The pack sum of a frame, with the shares of the voids that end withdrawn (R90). -/
theorem foldl_haltedFrame_sums (s : State) (g : FrameNo) (ls : List LaneNo) (fr : Frame) :
    (ls.foldl (haltedFrame s g) fr).sums = ((ls.filterMap (haltFile s)).filter fun x => x.1 == g).foldl
      (fun y x => y.withdraw x.2.2.sums ((x.2.2.off + 64) / 4)) fr.sums := by
  induction ls generalizing fr with
  | nil => rfl
  | cons l rest ih =>
    rw [List.foldl_cons, ih, List.filterMap_cons]
    obtain hnone | ⟨x, hsome⟩ := Option.eq_none_or_eq_some (haltFile s l)
    · simp [hnone, haltedFrame, haltedSums]
    · by_cases hg : x.1 = g <;> simp [hsome, haltedFrame, haltedSums, hg]

/-- The lanes whose void HALT ends at once. -/
def endedLanes (s : State) : List LaneNo := laneNos.filter fun l => (haltFile s l).isSome

theorem haltEnds_iff : haltEnds s l = true ↔ (s.lane l).state = .receiving ∧ (s.lane l).outstanding = 0 ∧ s.laneJobs l ≤ 1 := by
  simp [haltEnds, and_assoc]

theorem haltFile_isSome_iff : (haltFile s l).isSome = true ↔ haltEnds s l = true ∧ (s.currentFile l).isSome = true := by
  rw [haltFile]
  split <;> simp [*]

theorem haltFile_of_isSome (h : (haltFile s l).isSome = true) :
    haltFile s l = (s.currentFile l).map fun x => (x.1, x.2.1, x.2.2.fixed) := by
  rw [haltFile, if_pos (haltFile_isSome_iff.1 h).1]

theorem filterMap_haltFile (s : State) (ls : List LaneNo) : ls.filterMap (haltFile s) =
    ((ls.filter fun l => (haltFile s l).isSome).filterMap s.currentFile).map fun x => (x.1, x.2.1, x.2.2.fixed) := by
  rw [List.map_filterMap, List.filterMap_filter]
  congr 1
  funext l
  split
  · next h => exact haltFile_of_isSome h
  · next h => simpa using h

/-- The VOID_FILL jobs of HALT, in ascending order of their lanes (R109). -/
theorem flatMap_haltedJobs (s : State) (ls : List LaneNo) : ls.flatMap (haltedJobs s) =
    (ls.filter fun l => (haltFile s l).isSome).filterMap fun l => (s.currentFile l).map fun x =>
      { kind := .voidFill, frame := x.1, lane := some l, start := x.2.2.off + 64
        stop := x.2.2.off + recordSize x.2.2.len, source := .zeros } := by
  induction ls with
  | nil => rfl
  | cons l rest ih =>
    rw [List.flatMap_cons, ih, haltedJobs, List.filter_cons]
    split
    · next hsome =>
      obtain ⟨x, hx⟩ := Option.isSome_iff_exists.1 (haltFile_isSome_iff.1 hsome).2
      rw [List.filterMap_cons, haltFile_of_isSome hsome, hx]
      rfl
    · next hnone =>
      rw [Option.not_isSome_iff_eq_none.1 hnone]
      rfl

/-- The voids of HALT are as R176 states: `lanesHalted_forLanes`. -/
theorem haltVoids (u : State) : HaltVoids u (forLanes haltLane u) := by
  have hall := lanesHalted_forLanes u
  have hlane : ∀ l, (forLanes haltLane u).lane l = haltedLane u l := fun l => hall.lanes l (laneNos_complete l)
  have hended : ∀ l, l ∈ endedLanes u ↔ (haltFile u l).isSome = true := fun l => by
    rw [endedLanes, List.mem_filter]
    exact and_iff_right (laneNos_complete l)
  refine ⟨fun l h => ?notReceiving, fun l h hgoes => ?goingOn, fun l f e en hfile hentry hends => ?ended,
    fun l f e en h hfile hentry hplaced honly => ?entry, fun f e hnone => ?untouched, fun f => ?fixed,
    ⟨endedLanes u, laneNos_pairwise.filter _, fun l => ?ends, ?queue, fun f => ?sums, ?attn⟩,
    fun l slot r h hlast hfind => ?answered, fun hnone => ?port, ?rest⟩
  case notReceiving => rw [hlane, haltedLane, if_neg h]
  case goingOn =>
    have hnone : haltFile u l = none := if_neg fun hends => hgoes (haltEnds_iff.1 hends)
    rw [hlane, haltedLane, if_pos h, hnone]
    rfl
  case ended =>
    have hsome : haltFile u l = some (f, e, en.fixed) := by
      rw [haltFile, if_pos (haltEnds_iff.2 hends), currentFile_some hfile hentry]
      rfl
    rw [hlane, haltedLane, if_pos hends.1, hsome]
    rfl
  case entry =>
    have hvoided : voidedFile u l = some (f, e) := by rw [voidedFile, if_pos h, hfile]
    have honly' : ∀ k, k ≠ l → voidedFile u k ≠ some (f, e) := fun k hk => by
      rw [voidedFile]
      split
      · exact honly k hk
      · nofun
    have hleft : (forLanes haltLane u).entry? f e = some (haltedEntry u l en) := by
      rw [State.entry?, hall.frames]
      exact foldl_haltedFrame_entry_of_unique hvoided hentry honly'
    have hbegun : en.beginVoid = { en with state := .voiding } := if_pos (by simp [hplaced])
    refine ⟨fun hgoes => ?_, fun hends => ?_⟩
    · have hnone : haltFile u l = none := if_neg fun hends => hgoes (haltEnds_iff.1 hends)
      rw [hleft, haltedEntry, hnone, hbegun]
      rfl
    · have hsome : (haltFile u l).isSome = true :=
        haltFile_isSome_iff.2 ⟨haltEnds_iff.2 hends, by rw [currentFile_some hfile hentry]; rfl⟩
      rw [hleft, haltedEntry, if_pos hsome, hbegun]
      rfl
  case untouched =>
    rw [State.entry?, hall.frames]
    refine foldl_haltedFrame_entry (fun l _ => ?_) _
    rw [voidedFile]
    split
    · next h => exact hnone l h
    · nofun
  case fixed =>
    rw [hall.frames]
    obtain ⟨hkept, hentries⟩ := foldl_haltedFrame_fixed u f laneNos (u.frame f)
    exact ⟨hkept, by simpa using congrArg List.length hentries⟩
  case ends => rw [hended, haltFile_isSome_iff, haltEnds_iff]
  case queue =>
    rw [hall.queue]
    exact congrArg _ (flatMap_haltedJobs u laneNos)
  case sums =>
    rw [hall.frames, foldl_haltedFrame_sums, filterMap_haltFile, ← endedLanes, List.filter_map, List.foldl_map]
    rfl
  case attn =>
    have hany : (laneNos.any fun l => (haltFile u l).isSome) = !(endedLanes u).isEmpty := by
      rw [Bool.eq_iff_iff, endedLanes]
      simp [Option.isSome_iff_ne_none]
    rw [hall.attn, hany]
  case answered =>
    have hmem : slot ∈ laneNos.filterMap (haltedSlot u) :=
      List.mem_filterMap.2 ⟨l, laneNos_complete l, by rw [haltedSlot, if_pos h, hlast]⟩
    exact ⟨hall.port.answers slot hmem r hfind, hall.port.gone hmem⟩
  case port =>
    refine hall.port.same (List.filterMap_eq_nil_iff.2 fun l _ => ?_)
    rw [haltedSlot]
    split
    · next h => exact hnone l h
    · rfl
  case rest =>
    obtain ⟨port, lanes, frames, fill, attn, hrest⟩ := hall.rest
    rw [hrest]

end Sys2Proof.Machine
end

section
/-! PROOFS. STOP and HALT as run control takes them: the settled statement StopBegins (R172, R173, R175 to R177). -/

namespace Sys2Proof.Machine

open Sys2Proof.Config

variable {s u v : State} {a : Action} {cause : SealCause}

/-- Nothing but the blocks that it names differs after a stop has begun. -/
theorem stopBegun_fixed (h : StopBegun a cause s u) : u.resetLow = s.resetLow ∧ u.run.running = some a := by
  obtain ⟨hrun, -, -, -, -, -, -, -, -, -, -, hrest⟩ := h
  have hreset := congrArg State.resetLow hrest
  exact ⟨hreset, by rw [hrun]⟩

theorem haltVoids_fixed (h : HaltVoids u v) : v.resetLow = u.resetLow ∧ v.run = u.run := by
  obtain ⟨-, -, -, -, -, -, -, -, -, hrest⟩ := h
  have hreset := congrArg State.resetLow hrest
  have hrun := congrArg State.run hrest
  exact ⟨hreset, hrun⟩

/-- A stop that goes on answers 0, and one that is over DONE (R172, R177). -/
theorem actionData_tryStop (h : u.run.running = some a) :
    actionData a (tryStop u) = if (tryStop u).run.running = none then 1 else 0 := by
  rw [tryStop]
  split
  · simp only [finishRunning, modRun, h, actionData]
    rfl
  · simp [actionData, h]

/-- STOP and HALT, taken by run control, answer what `actionData_tryStop` says. -/
theorem takeAction_tryStop {part : State → State} (hadmits : admits s.run.running a = true) (hpart : part s = tryStop u)
    (hrun : u.run.running = some a) (index : Byte) : takeAction a index part s =
      linkAnswering .ok a.code index (if (tryStop u).run.running = none then 1 else 0) (tryStop u) := by
  rw [takeAction, if_pos hadmits, hpart, actionData_tryStop hrun, linkAnswer_eq]

/-- Settles O48: `stopBegun` and `haltVoids`, and then the test of the stop's end. -/
theorem stopBegins : Obligations.StopBegins := by
  intro s i hlive answers
  have hstop : exec (.stop i) s = .next (takeAction .stop i stopPart s) := live_next s hlive
  have hhalt : exec (.halt i) s = .next (takeAction .halt i haltPart s) := live_next s hlive
  rw [hstop, hhalt]
  refine ⟨fun hnone hglobal hlanes htable => ⟨?stop, ?halt⟩, fun hrunning hglobal => ⟨?again, ?takesOver⟩,
    fun hrunning => ⟨?stopHalting, ?haltHalting⟩, fun hnone hglobal => ⟨?stopWrong, ?haltWrong⟩⟩
  case stop =>
    have hbegun := stopBegun (a := .stop) (cause := .stop) hlanes htable
    obtain ⟨hreset, hrun⟩ := stopBegun_fixed hbegun
    have hpart : stopPart s = tryStop (beginStop .stop .stop s) := by rw [stopPart, hglobal]
    exact ⟨_, _, hbegun, exec_stopComplete_live (hreset.trans hlive),
      congrArg _ (takeAction_tryStop (by rw [hnone]; rfl) hpart hrun i)⟩
  case halt =>
    have hbegun := stopBegun (a := .halt) (cause := .halt) hlanes htable
    obtain ⟨hreset, hrun⟩ := stopBegun_fixed hbegun
    have hvoids := haltVoids (beginStop .halt .halt s)
    obtain ⟨hreset', hrun'⟩ := haltVoids_fixed hvoids
    have hpart : haltPart s = tryStop (forLanes haltLane (beginStop .halt .halt s)) := by rw [haltPart, hglobal]
    exact ⟨_, _, _, hbegun, hvoids, exec_stopComplete_live (hreset'.trans (hreset.trans hlive)),
      congrArg _ (takeAction_tryStop (by rw [hnone]; rfl) hpart ((congrArg RunControl.running hrun').trans hrun) i)⟩
  case again => exact congrArg _ (takeAction_refused i stopPart (by rw [hrunning]; rfl))
  case takesOver =>
    have hvoids := haltVoids { s with run := { s.run with running := some .halt } }
    obtain ⟨hreset, hrun⟩ := haltVoids_fixed hvoids
    have hpart : haltPart s = tryStop (forLanes haltLane { s with run := { s.run with running := some .halt } }) := by
      rw [haltPart, hglobal]
      rfl
    exact ⟨_, _, hvoids, exec_stopComplete_live (hreset.trans hlive),
      congrArg _ (takeAction_tryStop (by rw [hrunning]; rfl) hpart (congrArg RunControl.running hrun) i)⟩
  case stopHalting => exact congrArg _ (takeAction_refused i stopPart (by rw [hrunning]; rfl))
  case haltHalting => exact congrArg _ (takeAction_refused i haltPart (by rw [hrunning]; rfl))
  case stopWrong =>
    have hpart : stopPart s = finish .stop .wrongState s := by
      rcases hglobal with h | h <;> rw [stopPart, h]
    exact congrArg _ (takeAction_idle i hnone hpart hnone)
  case haltWrong =>
    have hpart : haltPart s = finish .halt .wrongState s := by
      rcases hglobal with h | h <;> rw [haltPart, h]
    exact congrArg _ (takeAction_idle i hnone hpart hnone)

end Sys2Proof.Machine
end
